-- ==== Sys2Proof/Word.lean ====
section
/-! DEFINITION. The word types of FPATH-R: every register and bus word is 32 bits (00_scope.md R8, XLEN = 32),
every flag-buffer entry and every colour lane is 8 bits (R40, R31). Bit 0 is the least significant bit (R10). -/

namespace Sys2Proof

/-- A 32-bit register or bus word (XLEN of R8, R21). -/
abbrev Word := BitVec 32

/-- An 8-bit entry of the flag buffer (R40) or an 8-bit colour lane (R31). -/
abbrev Byte := BitVec 8

end Sys2Proof
end

