-- ==== Sys2Proof/Syntax.lean ====
section
/-! DEFINITION. The commands of FPATH-R: one constructor per row of spec/opcode_table.json (30_encoding.md R94).
A constructor's arguments are the MOD fields of R92; every other operand is read from ARG0..ARG3 (R93, R95). -/

namespace Sys2Proof

/-- A decoded command (R94). The operands are the MOD fields of R92, which are the only immediates (R95). -/
inductive Instr where
  /-- NOP, R210. -/
  | nop
  /-- INIT, R211: bind a surface of ARG0 x ARG1 pixels. -/
  | init
  /-- DEINIT, R214. -/
  | deinit
  /-- SET_MODE, R216: MOD[0] = A, the new STATUS.AA (false is BW, true is AA). -/
  | setMode (aa : Bool)
  /-- SET_FILL, R217. -/
  | setFill
  /-- SET_STROKE, R218. -/
  | setStroke
  /-- RAMP_UPDATE, R219. -/
  | rampUpdate
  /-- CLR_ERR, R220. -/
  | clrErr
  /-- BEGIN_FILL, R160. -/
  | beginFill
  /-- PATH_MOVE, R161. -/
  | pathMove
  /-- PATH_LINE, R162. -/
  | pathLine
  /-- PATH_CLOSE, R163. -/
  | pathClose
  /-- EDGE_DRAW, R166. -/
  | edgeDraw
  /-- END_FILL, R190. -/
  | endFill
  /-- FDIVMOD, R120. -/
  | fdivmod
  /-- CEIL, R122: MOD[3:0] = k, the scale exponent. -/
  | ceil (k : BitVec 4)
  /-- POPCNT, R124. -/
  | popcnt
  /-- EDGE_INIT, R148: MOD[2:0] = k, the scale exponent, legal for k = 0..4 (R92). -/
  | edgeInit (k : BitVec 3)
  /-- EDGE_STEP, R149. -/
  | edgeStep
deriving DecidableEq, Repr

end Sys2Proof
end

