-- ==== Sys2Proof/WellFormed.lean ====
section
/-! DEFINITION. Which commands have a legal encoding. Every operand field is exactly as wide as its MOD field, so the
one check left is the scale limit of EDGE_INIT (30_encoding.md R91, R92: k = 5, 6 and 7 are ILLEGAL). -/

namespace Sys2Proof

/-- The scale exponents EDGE_INIT accepts: k = 0..4 (R92). -/
def edgeScaleOk (k : BitVec 3) : Bool := decide (k.toNat ≤ 4)

/-- A command is well formed when some legal command word encodes it (R92, R96). -/
def Instr.wf : Instr → Bool
  | .nop => true
  | .init => true
  | .deinit => true
  | .setMode _ => true
  | .setFill => true
  | .setStroke => true
  | .rampUpdate => true
  | .clrErr => true
  | .beginFill => true
  | .pathMove => true
  | .pathLine => true
  | .pathClose => true
  | .edgeDraw => true
  | .endFill => true
  | .fdivmod => true
  | .ceil _ => true
  | .popcnt => true
  | .edgeInit k => edgeScaleOk k
  | .edgeStep => true

end Sys2Proof
end

