-- ==== Sys2Proof/Decode.lean ====
section
/-! DEFINITION. The command word: the decoder of 30_encoding.md R90 to R96, total on every 32-bit word and refusing by
name, and after it the encoder written from the same tables. A word the decoder refuses is no stop of the machine: the
block records the fault ILLEGAL for it (R91, R241) and goes on. -/

namespace Sys2Proof

/-- Why a word is no command (R91, in the order of its checks). Each of them is the one fault ILLEGAL of R241. -/
inductive DecodeError where
  /-- OP is not in the opcode map of R94. -/
  | opcode
  /-- Z, bits 23:8, is not zero. -/
  | reservedBits
  /-- A MOD bit outside MODMASK(OP) is set. -/
  | modifierBits
  /-- EDGE_INIT with k = 5, 6 or 7. -/
  | edgeScale
deriving DecidableEq, Repr

/-- OP, bits 31:24 of a command word (R90). -/
def opField (w : Word) : Byte := w.extractLsb' 24 8

/-- Z, bits 23:8 of a command word, which must be 0 (R90). -/
def zField (w : Word) : BitVec 16 := w.extractLsb' 8 16

/-- MOD, bits 7:0 of a command word (R90). -/
def modField (w : Word) : Byte := w.extractLsb' 0 8

/-- The opcode map of R94 with MODMASK of R92: for a listed OP, the MOD bits it may use and the command that a legal
MOD selects; for any other OP, nothing (R96). -/
def opRow (op : Byte) : Option (Byte × (Byte → Instr)) :=
  match op with
  | 0x00#8 => some (0x00#8, fun _ => .nop)
  | 0x01#8 => some (0x00#8, fun _ => .init)
  | 0x02#8 => some (0x00#8, fun _ => .deinit)
  | 0x03#8 => some (0x01#8, fun m => .setMode (m.getLsbD 0))
  | 0x04#8 => some (0x00#8, fun _ => .setFill)
  | 0x05#8 => some (0x00#8, fun _ => .setStroke)
  | 0x06#8 => some (0x00#8, fun _ => .rampUpdate)
  | 0x07#8 => some (0x00#8, fun _ => .clrErr)
  | 0x10#8 => some (0x00#8, fun _ => .beginFill)
  | 0x11#8 => some (0x00#8, fun _ => .pathMove)
  | 0x12#8 => some (0x00#8, fun _ => .pathLine)
  | 0x13#8 => some (0x00#8, fun _ => .pathClose)
  | 0x14#8 => some (0x00#8, fun _ => .edgeDraw)
  | 0x15#8 => some (0x00#8, fun _ => .endFill)
  | 0x20#8 => some (0x00#8, fun _ => .fdivmod)
  | 0x21#8 => some (0x0F#8, fun m => .ceil (m.extractLsb' 0 4))
  | 0x22#8 => some (0x00#8, fun _ => .popcnt)
  | 0x23#8 => some (0x07#8, fun m => .edgeInit (m.extractLsb' 0 3))
  | 0x24#8 => some (0x00#8, fun _ => .edgeStep)
  | _ => none

/-- Decode a command word (R91), with its checks in the order R91 gives them. No mode bit changes the result (R91,
R97). -/
def decode (w : Word) : Except DecodeError Instr :=
  match opRow (opField w) with
  | none => .error .opcode
  | some (modMask, build) =>
    if zField w ≠ 0 then .error .reservedBits
    else if modField w &&& ~~~modMask ≠ 0 then .error .modifierBits
    else if (build (modField w)).wf then .ok (build (modField w))
    else .error .edgeScale

/-- Assemble a command word with Z = 0 (R90). -/
def cmdWord (op mod : Byte) : Word := op ++ (0#16 : BitVec 16) ++ mod

/-- The command word of a command (R94, with MOD filled in as R92 says). -/
def encode : Instr → Word
  | .nop => cmdWord 0x00 0
  | .init => cmdWord 0x01 0
  | .deinit => cmdWord 0x02 0
  | .setMode aa => cmdWord 0x03 (if aa then 1 else 0)
  | .setFill => cmdWord 0x04 0
  | .setStroke => cmdWord 0x05 0
  | .rampUpdate => cmdWord 0x06 0
  | .clrErr => cmdWord 0x07 0
  | .beginFill => cmdWord 0x10 0
  | .pathMove => cmdWord 0x11 0
  | .pathLine => cmdWord 0x12 0
  | .pathClose => cmdWord 0x13 0
  | .edgeDraw => cmdWord 0x14 0
  | .endFill => cmdWord 0x15 0
  | .fdivmod => cmdWord 0x20 0
  | .ceil k => cmdWord 0x21 (k.setWidth 8)
  | .popcnt => cmdWord 0x22 0
  | .edgeInit k => cmdWord 0x23 (k.setWidth 8)
  | .edgeStep => cmdWord 0x24 0

/-- The command that the decoder reads from the word whose lowest `nbits` bits are those of `w` and whose other bits
are 0. A command is exactly one 32-bit bus word (R90, R97), and the bus moves whole words (R64), so no byte order
enters. -/
def decodeTableWord (nbits w : Nat) : Option Instr :=
  match decode (BitVec.ofNat 32 (w % 2 ^ nbits)) with
  | .ok i => some i
  | .error _ => none

end Sys2Proof
end

