-- ==== Sys2Proof/Config.lean ====
section
/-! DEFINITION. What an implementation of FPATH-R fixes (the OPEN parameters of 00_scope.md R8) and the one value the
spec leaves to the outside world, the surface's answer to an acquisition (20_memory.md R72). -/

namespace Sys2Proof

/-- The OPEN parameters of R8, fixed for a given block (R43). They are carried in the machine's state, where no step
changes them, so that every statement about a state is about every configuration. -/
structure Config where
  /-- BASE, the platform's bus address of register offset 0 (R8, R70). -/
  base : Nat
  /-- MAX_W, the largest surface width INIT accepts, 1..2047 (R8, R38). -/
  maxW : Nat
  /-- MAX_H, the largest surface height INIT accepts, 1..2047 (R8, R38). -/
  maxH : Nat
  /-- PERM[0..7], the horizontal dither offset of each sub-row, a permutation of 0..7 (R8, R171). -/
  perm : Vector (BitVec 3) 8
deriving DecidableEq, Repr

/-- The bounds R8 puts on the OPEN parameters: MAX_W and MAX_H in 1..2047, and PERM a permutation of 0..7 (eight
3-bit values with no repeat). -/
def Config.wf (c : Config) : Bool :=
  decide (1 ≤ c.maxW) && decide (c.maxW ≤ 2047) && decide (1 ≤ c.maxH) && decide (c.maxH ≤ 2047)
    && decide c.perm.toList.Nodup

/-- The reference configuration of R8: MAX_W = MAX_H = 256 and PERM = [7, 3, 0, 2, 5, 1, 6, 4]. R8 gives BASE no
reference value: 0 is a DESIGN CHOICE (notes/assumptions/2.md, unsafe), used by `State.reset` alone. -/
def Config.reference : Config :=
  { base := 0, maxW := 256, maxH := 256, perm := #v[7, 3, 0, 2, 5, 1, 6, 4] }

/-- The surface's answer to the n-th SurfaceAcquire for which the environment has put down no answer: a free input
(R72, R43, U7). It has no body, so nothing can be proved of its value (notes/assumptions/3.md, safe). -/
opaque Config.surfaceAnswer : Nat → Bool

end Sys2Proof
end

