-- ==== Sys2Proof/Machine/State.lean ====
section
/-! DEFINITION. The state of FPATH-R (10_state.md) as plain data: every register of R21, the fields of STATUS (R22), the
flag buffer (R40), the configuration of R8, and the model's own view of what lies outside the block (the accesses the
host will make, the words its reads returned, and the transactions of the surface port). -/

namespace Sys2Proof.Machine

/-- STATUS.STATE, the render-context lifecycle of R23. The fourth code is never held (R22), so it has no constructor
(DEDUCED, notes/assumptions/18.md, safe). -/
inductive ContextState where
  /-- Code 0: no surface is bound and no flag buffer exists. -/
  | unbound
  /-- Code 1: bound, between fills. -/
  | idle
  /-- Code 2: between BEGIN_FILL and END_FILL. -/
  | filling
deriving DecidableEq, Repr

/-- The fault codes of R241, held in STATUS.ERRCODE. Codes 8 to 15 are never produced, so they have no constructor
(DEDUCED, notes/assumptions/18.md, safe). A fault code never stops the machine (R242). -/
inductive FaultCode where
  /-- Code 0: no fault recorded. -/
  | none
  /-- Code 1, raised by any CMD write whose word does not decode. -/
  | illegal
  /-- Code 2, raised by a command that is not legal in the current STATE and PATH_OPEN (R243). -/
  | seq
  /-- Code 3, raised by INIT with a size outside the capacity. -/
  | alloc
  /-- Code 4, raised by FDIVMOD with a denominator that is not positive. -/
  | domain
  /-- Code 5, raised by a coordinate operand outside the legal range. -/
  | range
  /-- Code 6, raised by PATH_CLOSE of a path with fewer than 2 vertices. -/
  | degenerate
  /-- Code 7, raised by END_FILL when the surface refuses the acquisition. -/
  | surface
deriving DecidableEq, Repr

/-- The fields of STATUS (R22). The reserved bits read 0 (`statusWord` in Machine/Flags.lean packs the register). -/
structure Status where
  /-- STATE, bits 1:0 (R23). -/
  state : ContextState
  /-- PATH_OPEN, bit 2 (R24). -/
  pathOpen : Bool
  /-- AA, bit 3: false is BW, true is AA (R25). -/
  aa : Bool
  /-- RAMP_DIRTY, bit 4 (R26). -/
  rampDirty : Bool
  /-- CLIP, bit 5, sticky (R27). -/
  clip : Bool
  /-- ERR, bit 6, sticky (R27). -/
  err : Bool
  /-- ERRCODE, bits 11:8 (R27, R241). -/
  errCode : FaultCode
deriving DecidableEq, Repr

/-- The operand registers ARG0..ARG3 (R28). -/
structure ArgRegs where
  arg0 : Word
  arg1 : Word
  arg2 : Word
  arg3 : Word
deriving DecidableEq, Repr

/-- The bounding-box registers, signed, in 1/16 pixel (R34). -/
structure BBoxRegs where
  minX : Word
  minY : Word
  maxX : Word
  maxY : Word
deriving DecidableEq, Repr

/-- The edge-stepper registers E_X, E_STEP, E_NUM, E_DEN, E_ERR, E_Y and E_H, each read as s32 (R30). -/
structure EdgeRegs where
  x : Word
  step : Word
  num : Word
  den : Word
  err : Word
  y : Word
  h : Word
deriving DecidableEq, Repr

/-- The path registers PATH_N, PATH_FX, PATH_FY, PATH_PX and PATH_PY (R35). -/
structure PathRegs where
  n : Word
  fx : Word
  fy : Word
  px : Word
  py : Word
deriving DecidableEq, Repr

/-- The flag buffer's contents, as key and entry pairs in one canonical form (`Memory.wf` in Machine/Ops.lean). An
unlisted entry reads as 0, the value INIT gives every entry (R212; DESIGN CHOICE, notes/assumptions/5.md, safe). -/
abbrev Memory := List Host.Cell

/-- A bus access of the host (R61): its width in bits, its platform address and, for a write, its word. Only an
aligned access of 32 bits inside the register window is defined (R62, R63). -/
inductive BusAccess where
  | read (bits addr : Nat)
  | write (bits addr : Nat) (data : Word)
deriving DecidableEq, Repr

/-- What the outside world does to the block between two bus accesses. -/
inductive HostOp where
  /-- One bus access (R61). -/
  | access (a : BusAccess)
  /-- The end of the host's loop `repeat body until rd addr == value` (R101): read, and go round again unless the
  read returned the value. The body holds bus accesses and no inner loop (DESIGN CHOICE, notes/assumptions/14.md,
  safe). -/
  | untilRead (body : List BusAccess) (addr : Nat) (value : Word)
  /-- A hardware reset, which comes only between bus accesses (R270). -/
  | reset
deriving DecidableEq, Repr

/-- A transaction of the surface port (R71). The surface itself is no state of the block (R42): the model records what
the block sends it (DEDUCED, notes/assumptions/15.md, unsafe for claims about a surface's pixels). -/
inductive PortEvent where
  /-- SurfaceAcquire, with the surface's answer. -/
  | acquire (ok : Bool)
  /-- PixelWrite(x, y, colour). -/
  | pixel (x y : Nat) (colour : Word)
  /-- SurfaceRelease. -/
  | release
deriving DecidableEq, Repr

/-- The model's own fields: what lies outside the block. None of them is state of FPATH-R (R20, R42, R43)
(DESIGN CHOICE, notes/assumptions/1.md and notes/assumptions/4.md, safe). -/
structure Env where
  /-- What the host will do, the next first. -/
  pending : List HostOp
  /-- The words the bus reads have returned, the oldest first. -/
  readLog : List Word
  /-- The surface-port transactions so far, the oldest first. -/
  portLog : List PortEvent
  /-- The answers the surface will give to the coming SurfaceAcquires, the next first. When it is empty the answer is
  the free value `Config.surfaceAnswer acquires` (R72). -/
  answers : List Bool
  /-- How many SurfaceAcquires there have been. -/
  acquires : Nat
deriving DecidableEq, Repr

/-- The state of the machine. -/
structure State where
  /-- The OPEN parameters of R8, which no step changes (R43); CAPS and PERM read them (R38). Not state of the block:
  they stand here so that a state fixes its configuration (DESIGN CHOICE, notes/assumptions/7.md, safe). -/
  cfg : Config
  /-- STATUS (R22). -/
  status : Status
  /-- ARG0..ARG3 (R28). -/
  args : ArgRegs
  /-- RES0 (R29). -/
  res0 : Word
  /-- RES1 (R29). -/
  res1 : Word
  /-- ERRCMD (R36). -/
  errCmd : Word
  /-- FILL_COLOR (R31). -/
  fillColor : Word
  /-- STROKE_COLOR (R31). -/
  strokeColor : Word
  /-- SURF_W (R32). -/
  surfW : Word
  /-- SURF_H (R32). -/
  surfH : Word
  /-- BBOX_MINX, BBOX_MINY, BBOX_MAXX, BBOX_MAXY (R34). -/
  bbox : BBoxRegs
  /-- The E_* registers (R30). -/
  edge : EdgeRegs
  /-- The PATH_* registers (R35). -/
  path : PathRegs
  /-- RAMP0..RAMP8 (R33). -/
  ramp : Vector Word 9
  /-- The flag buffer FB (R40). -/
  fb : Memory
  /-- The outside world (the model's own). -/
  env : Env
deriving DecidableEq, Repr

/-- Why the machine stops with a fault: never. Every fault of FPATH-R is recorded in STATUS and ERRCMD, and the block
goes on (R240, R242, R247), so this closed type has no constructor: no meaning and no step can answer a fault (DEDUCED, notes/assumptions/8.md,
safe). -/
inductive Fault where
deriving DecidableEq, Repr

/-- Why the model has no step. -/
inductive Refusal where
  /-- Raised by an arm of `exec` whose instruction has no meaning yet; no arm does. Safe. -/
  | notModelled (mnemonic : String)
  /-- Raised by a bus access of a width other than 32 bits, which the spec does not define (R62, U10). Safe. -/
  | busWidth
  /-- Raised by a bus access outside the 256-byte register window (R63, U10). Safe. -/
  | busWindow
  /-- Raised by a bus access at an offset that is no multiple of 4 (R63, U10). Safe. -/
  | busAlignment
deriving DecidableEq, Repr

/-- Write STATUS. -/
def State.setStatus (s : State) (v : Status) : State := { s with status := v }
/-- Write ARG0..ARG3. -/
def State.setArgs (s : State) (v : ArgRegs) : State := { s with args := v }
/-- Write RES0. -/
def State.setRes0 (s : State) (v : Word) : State := { s with res0 := v }
/-- Write RES1. -/
def State.setRes1 (s : State) (v : Word) : State := { s with res1 := v }
/-- Write ERRCMD. -/
def State.setErrCmd (s : State) (v : Word) : State := { s with errCmd := v }
/-- Write FILL_COLOR. -/
def State.setFillColor (s : State) (v : Word) : State := { s with fillColor := v }
/-- Write STROKE_COLOR. -/
def State.setStrokeColor (s : State) (v : Word) : State := { s with strokeColor := v }
/-- Write SURF_W. -/
def State.setSurfW (s : State) (v : Word) : State := { s with surfW := v }
/-- Write SURF_H. -/
def State.setSurfH (s : State) (v : Word) : State := { s with surfH := v }
/-- Write the bounding box. -/
def State.setBBox (s : State) (v : BBoxRegs) : State := { s with bbox := v }
/-- Write the E_* registers. -/
def State.setEdge (s : State) (v : EdgeRegs) : State := { s with edge := v }
/-- Write the PATH_* registers. -/
def State.setPath (s : State) (v : PathRegs) : State := { s with path := v }
/-- Write RAMP0..RAMP8. -/
def State.setRamp (s : State) (v : Vector Word 9) : State := { s with ramp := v }
/-- Write the flag buffer. -/
def State.setFb (s : State) (v : Memory) : State := { s with fb := v }
/-- Write the model's record of the outside world. -/
def State.setEnv (s : State) (v : Env) : State := { s with env := v }

/-- STATUS after reset: 0x00000010, that is UNBOUND with RAMP_DIRTY = 1 (R22, R270). -/
def Status.reset : Status :=
  { state := .unbound, pathOpen := false, aa := false, rampDirty := true, clip := false, err := false,
    errCode := .none }

/-- Nothing has happened outside the block and the host has nothing to do: the model's choice for its own fields
(DESIGN CHOICE, notes/assumptions/4.md, safe). -/
def Env.empty : Env :=
  { pending := [], readLog := [], portLog := [], answers := [], acquires := 0 }

/-- The block of configuration `c` right after a hardware reset, with the outside world `e` (R270). -/
def State.resetWith (c : Config) (e : Env) : State :=
  { cfg := c, status := Status.reset,
    args := { arg0 := 0, arg1 := 0, arg2 := 0, arg3 := 0 },
    res0 := 0, res1 := 0, errCmd := 0, fillColor := 0, strokeColor := 0, surfW := 0, surfH := 0,
    bbox := { minX := 0, minY := 0, maxX := 0, maxY := 0 },
    edge := { x := 0, step := 0, num := 0, den := 0, err := 0, y := 0, h := 0 },
    path := { n := 0, fx := 0, fy := 0, px := 0, py := 0 },
    ramp := Vector.replicate 9 0, fb := [], env := e }

/-- The machine right after reset, in the reference configuration of R8. -/
def State.reset : State := State.resetWith Config.reference Env.empty

end Sys2Proof.Machine
end

