-- ==== Sys2Proof/Machine/Operands.lean ====
section
/-! DEFINITION. How a command reads its operands and stores its results: the readings s32 and u32 and the store w32 of
00_scope.md R11, the operand table of 30_encoding.md R93, and the fields of a colour word (R31) and of PERM (R38). -/

namespace Sys2Proof.Machine

/-- `s32(w)`, the signed two's complement reading of a word (R11). -/
def s32 (w : Word) : Int := w.toInt

/-- `u32(w)`, the unsigned reading of a word (R11). -/
def u32 (w : Word) : Nat := w.toNat

/-- `w32(v)`, the word that stores the integer `v` (R11): v mod 2^32. From states that commands leave it loses nothing
(DEDUCED for the others, notes/assumptions/13.md, safe). -/
def w32 (v : Int) : Word := BitVec.ofInt 32 v

/-- The legal coordinate operands: COORD_MIN <= v <= COORD_MAX (R8, R93). -/
def coordOk (v : Int) : Bool := decide (-32768 ≤ v) && decide (v ≤ 32767)

/-- ARG0 read as s32 (R93). -/
def State.sArg0 (s : State) : Int := s32 s.args.arg0
/-- ARG1 read as s32 (R93). -/
def State.sArg1 (s : State) : Int := s32 s.args.arg1
/-- ARG2 read as s32 (R93). -/
def State.sArg2 (s : State) : Int := s32 s.args.arg2
/-- ARG3 read as s32 (R93). -/
def State.sArg3 (s : State) : Int := s32 s.args.arg3
/-- ARG0 read as u32 (R93). -/
def State.uArg0 (s : State) : Nat := u32 s.args.arg0
/-- ARG1 read as u32 (R93). -/
def State.uArg1 (s : State) : Nat := u32 s.args.arg1

/-- The range check of a command with two coordinate operands (R93: PATH_MOVE, PATH_LINE). -/
def State.coords2Ok (s : State) : Bool := coordOk s.sArg0 && coordOk s.sArg1

/-- The range check of a command with four coordinate operands (R93: EDGE_DRAW, EDGE_INIT). -/
def State.coords4Ok (s : State) : Bool :=
  coordOk s.sArg0 && coordOk s.sArg1 && coordOk s.sArg2 && coordOk s.sArg3

/-- Lane `j` of a colour word, bits [8j+7 : 8j] (R31). -/
def lane (w : Word) (j : Nat) : Nat := (w.extractLsb' (8 * j) 8).toNat

/-- The colour word with the given lanes, lane 3 in bits 31:24 (R31). -/
def laneWord (l3 l2 l1 l0 : Nat) : Word :=
  BitVec.ofNat 8 l3 ++ BitVec.ofNat 8 l2 ++ BitVec.ofNat 8 l1 ++ BitVec.ofNat 8 l0

/-- PERM[k] for a sub-row k in 0..7 (R8, R171). -/
def dither (c : Config) (k : Nat) : Nat := (c.perm.get (Fin.ofNat 8 k)).toNat

/-- The register CAPS: {MAX_H[15:0], MAX_W[15:0]} (R38). -/
def capsWord (c : Config) : Word := BitVec.ofNat 16 c.maxH ++ BitVec.ofNat 16 c.maxW

/-- The register PERM: PERM[k] in bits [4k+2 : 4k], bits 4k+3 zero (R38). -/
def permWord (c : Config) : Word :=
  (c.perm.get 7).setWidth 4 ++ (c.perm.get 6).setWidth 4 ++ (c.perm.get 5).setWidth 4 ++
    (c.perm.get 4).setWidth 4 ++ (c.perm.get 3).setWidth 4 ++ (c.perm.get 2).setWidth 4 ++
    (c.perm.get 1).setWidth 4 ++ (c.perm.get 0).setWidth 4

end Sys2Proof.Machine
end

