-- ==== Sys2Proof/Machine/Flags.lean ====
section
/-! DEFINITION. The fields of STATUS: their codes and packing (10_state.md R22, 60_exceptions.md R241) and every way a
command changes them. -/

namespace Sys2Proof.Machine

/-- The code of STATUS.STATE (R22). -/
def stateCode : ContextState → BitVec 2
  | .unbound => 0
  | .idle => 1
  | .filling => 2

/-- The code of STATUS.ERRCODE (R241). -/
def faultCode : FaultCode → BitVec 4
  | .none => 0
  | .illegal => 1
  | .seq => 2
  | .alloc => 3
  | .domain => 4
  | .range => 5
  | .degenerate => 6
  | .surface => 7

/-- The register STATUS, its reserved bits 7 and 31:12 reading 0 (R22). -/
def statusWord (v : Status) : Word :=
  (0#20 : BitVec 20) ++ faultCode v.errCode ++ (0#1 : BitVec 1) ++ BitVec.ofBool v.err ++ BitVec.ofBool v.clip ++
    BitVec.ofBool v.rampDirty ++ BitVec.ofBool v.aa ++ BitVec.ofBool v.pathOpen ++ stateCode v.state

/-- STATE <- v (R23). -/
def State.setContext (s : State) (v : ContextState) : State := s.setStatus { s.status with state := v }

/-- PATH_OPEN <- v (R24). -/
def State.setPathOpen (s : State) (v : Bool) : State := s.setStatus { s.status with pathOpen := v }

/-- AA <- v (R25). -/
def State.setAa (s : State) (v : Bool) : State := s.setStatus { s.status with aa := v }

/-- RAMP_DIRTY <- v (R26). -/
def State.setRampDirty (s : State) (v : Bool) : State := s.setStatus { s.status with rampDirty := v }

/-- Set the sticky CLIP when a toggle was clipped, and leave it alone otherwise (R27, R172). -/
def State.noteClip (s : State) (clipped : Bool) : State := s.setStatus { s.status with clip := s.status.clip || clipped }

/-- STATE = FILLING with PATH_OPEN = 0 (R243). -/
def State.fillingClosed (s : State) : Bool := decide (s.status.state = .filling) && !s.status.pathOpen

/-- STATE = FILLING with PATH_OPEN = 1 (R243). -/
def State.fillingOpen (s : State) : Bool := decide (s.status.state = .filling) && s.status.pathOpen

end Sys2Proof.Machine
end

