-- ==== Sys2Proof/Machine/Ops.lean ====
section
/-! DEFINITION. The named operations over memory and registers: the flag buffer (20_memory.md R66 to R68), recording a
fault and acknowledging it (60_exceptions.md R242, R248), the bounding box (R164), the surface port (R71, R72) and
hardware reset (R270). -/

namespace Sys2Proof.Machine

/-- What an unlisted entry of the flag buffer reads as: 0, the value INIT gives every entry (R212). -/
def Memory.default : Byte := 0

/-- The canonical form: keys strictly rising, and no listed entry equal to what an unlisted one reads as. -/
def Memory.wf : Memory → Bool
  | [] => true
  | [c] => decide (c.2 ≠ Memory.default)
  | c :: d :: m => decide (c.1 < d.1) && decide (c.2 ≠ Memory.default) && Memory.wf (d :: m)

/-- Read one entry. -/
def Memory.read : Memory → Nat → Byte
  | [], _ => Memory.default
  | c :: m, a => if c.1 = a then c.2 else Memory.read m a

/-- Put an entry in front of the rest of a list, leaving out one that an unlisted entry would read as. -/
def Memory.cons (a : Nat) (v : Byte) (m : Memory) : Memory := if v = Memory.default then m else (a, v) :: m

/-- Write one entry, keeping the canonical form. -/
def Memory.write : Memory → Nat → Byte → Memory
  | [], a, v => Memory.cons a v []
  | c :: m, a, v =>
    if a < c.1 then Memory.cons a v (c :: m)
    else if a = c.1 then Memory.cons a v m
    else c :: Memory.write m a v

/-- The key of FB[r][c]: the row and the column as the two halves of one number, so that keys rise in row-major order.
Both are at most SURF_H or SURF_W, below 2^32, so distinct entries have distinct keys (R66; DESIGN CHOICE,
notes/assumptions/5.md, safe). -/
def fbKey (r c : Nat) : Nat := r * 2 ^ 32 + c

/-- FB[r][c] (R14). -/
def State.fbRead (s : State) (r c : Nat) : Byte := Memory.read s.fb (fbKey r c)

/-- FB[r][c] <- v (R14). -/
def State.fbWrite (s : State) (r c : Nat) (v : Byte) : State := s.setFb (Memory.write s.fb (fbKey r c) v)

/-- Record the fault `c` of the command word `w`: the first fault since the last CLR_ERR leaves its code and its word,
and every fault sets ERR (R242). This is the block's whole exception entry: it saves nothing else, changes no mode and
transfers no control (R240, R247). -/
def raiseFault (c : FaultCode) (w : Word) (s : State) : State :=
  if s.status.err then s
  else (s.setStatus { s.status with err := true, errCode := c }).setErrCmd w

/-- Acknowledge the recorded fault, the block's only return from an exception (R220, R248): ERR, ERRCODE, ERRCMD and
CLIP are cleared. -/
def clearFault (s : State) : State :=
  (s.setStatus { s.status with err := false, errCode := .none, clip := false }).setErrCmd 0

/-- The command `i` raises the fault `c`: ERRCMD gets the whole command word (R36, R242), which is the encoding of the
decoded command (DEDUCED, notes/assumptions/17.md, safe). -/
def raiseIn (i : Instr) (c : FaultCode) (s : State) : State := raiseFault c (encode i) s

/-- The bounding box seeded to the surface bounds, (0, 0, 16*SURF_W, 16*SURF_H) (R34, R160, R213). -/
def seedBBox (s : State) : State :=
  s.setBBox { minX := 0, minY := 0, maxX := w32 (16 * (u32 s.surfW : Int)), maxY := w32 (16 * (u32 s.surfH : Int)) }

/-- GrowBBox(x, y) on signed values (R164). -/
def growBBox (x y : Int) (s : State) : State :=
  s.setBBox
    { minX := w32 (min (s32 s.bbox.minX) x), minY := w32 (min (s32 s.bbox.minY) y),
      maxX := w32 (max (s32 s.bbox.maxX) x), maxY := w32 (max (s32 s.bbox.maxY) y) }

/-- The surface's answer to the next SurfaceAcquire: the one the environment has put down, and otherwise a free value
(R72). -/
def State.surfaceAnswer (s : State) : Bool :=
  match s.env.answers with
  | [] => Config.surfaceAnswer s.env.acquires
  | ok :: _ => ok

/-- SurfaceAcquire: the transaction with its answer, which is then used up (R71, R72). -/
def surfaceAcquire (s : State) : State :=
  s.setEnv
    { s.env with
      portLog := s.env.portLog ++ [.acquire s.surfaceAnswer], answers := s.env.answers.tail,
      acquires := s.env.acquires + 1 }

/-- Issue surface-port transactions in order (R71, R77). -/
def emit (es : List PortEvent) (s : State) : State := s.setEnv { s.env with portLog := s.env.portLog ++ es }

/-- Hardware reset: every register at its reset value; the configuration stays, no surface transaction is issued, and
the world outside the block is left as it is (R270; DEDUCED, notes/assumptions/10.md, safe). -/
def hardwareReset (s : State) : State := State.resetWith s.cfg s.env

end Sys2Proof.Machine
end

