-- ==== Sys2Proof/Machine/FixedPoint.lean ====
section
/-! DEFINITION. The fixed-point helpers of 40_fixed_point.md: the procedures FloorDivMod (R121), Ceil (R123) and
popcount (R12, R125), and the commands FDIVMOD, CEIL and POPCNT. -/

namespace Sys2Proof.Machine

/-- FloorDivMod(n, d) for d > 0: the quotient rounded toward minus infinity and the remainder in [0, d) (R121). Lean's
integer division and remainder are these for a positive divisor. -/
def floorDivMod (n d : Int) : Int × Int := (n / d, n % d)

/-- Ceil(v, k), the smallest integer c with c*2^k >= v, computed as R123 writes it. -/
def ceilDiv (v : Int) (k : Nat) : Int := v / 2 ^ k + (if v % 2 ^ k ≠ 0 then 1 else 0)

/-- popcount(w), the number of 1 bits (R12). -/
def popcount {n : Nat} (w : BitVec n) : Nat := (List.range n).countP (fun i => w.getLsbD i)

/-- FDIVMOD (R120). -/
def execFdivmod (s : State) : Host.Outcome State Fault Refusal :=
  if s.sArg1 ≤ 0 then .next (raiseIn .fdivmod .domain s)
  else
    .next ((s.setRes0 (w32 (floorDivMod s.sArg0 s.sArg1).1)).setRes1 (w32 (floorDivMod s.sArg0 s.sArg1).2))

/-- CEIL with scale exponent k (R122). -/
def execCeil (k : BitVec 4) (s : State) : Host.Outcome State Fault Refusal :=
  .next (s.setRes0 (w32 (ceilDiv s.sArg0 k.toNat)))

/-- POPCNT, over all 32 bits of ARG0 (R124, R125). -/
def execPopcnt (s : State) : Host.Outcome State Fault Refusal :=
  .next (s.setRes0 (w32 (popcount s.args.arg0)))

end Sys2Proof.Machine
end

