-- ==== Sys2Proof/Machine/EdgeStepper.lean ====
section
/-! DEFINITION. The edge stepper of 41_edge_stepper.md: the procedures EdgeInit (R141 to R143), EdgeStep (R144) and Walk
(R146), and the commands EDGE_INIT (R148) and EDGE_STEP (R149). -/

namespace Sys2Proof.Machine

/-- EdgeInit after its points have been ordered top to bottom: the loaded registers and the height (R141, and R143 for
an edge with no rows). -/
def edgeLoad (x0 y0 x1 y1 : Int) (k : Nat) : EdgeRegs × Int :=
  let scale : Int := 2 ^ k
  let ys := ceilDiv y0 k
  let h := ceilDiv y1 k - ys
  if h ≤ 0 then
    ({ x := w32 (ceilDiv x0 k), step := w32 0, num := w32 0, den := w32 1, err := w32 0, y := w32 ys, h := w32 0 }, 0)
  else
    let dX := x1 - x0
    let dY := y1 - y0
    let den := scale * dY
    let pre := ys * scale - y0
    let start := floorDivMod (x0 * dY + dX * pre + den - 1) den
    let step := floorDivMod (dX * scale) den
    ({ x := w32 start.1, step := w32 step.1, num := w32 step.2, den := w32 den, err := w32 start.2, y := w32 ys,
       h := w32 h }, h)

/-- EdgeInit(x0, y0, x1, y1, k): the points are swapped only when y0 > y1 strictly (R141, R142). Where y0 = y1, E_X is
that of the point given first, as R141 computes it (DEDUCED, notes/assumptions/11.md, unsafe). -/
def edgeInit (x0 y0 x1 y1 : Int) (k : Nat) : EdgeRegs × Int :=
  if y0 > y1 then edgeLoad x1 y1 x0 y0 k else edgeLoad x0 y0 x1 y1 k

/-- EdgeStep(): the registers one sample row further and the new remaining height (R144); an exhausted edge does not
change (R149). -/
def edgeStep (e : EdgeRegs) : EdgeRegs × Int :=
  if s32 e.h = 0 then (e, 0)
  else
    let err := s32 e.err + s32 e.num
    let carry := decide (err ≥ s32 e.den)
    let h := s32 e.h - 1
    ({ e with
        x := w32 (s32 e.x + s32 e.step + if carry then 1 else 0),
        err := w32 (err - if carry then s32 e.den else 0),
        y := w32 (s32 e.y + 1), h := w32 h }, h)

/-- The sample points (E_X, E_Y) that Walk visits on the next `n` rows, the top row first (R146). -/
def walkVisits : Nat → EdgeRegs → List (Int × Int)
  | 0, _ => []
  | n + 1, e => (s32 e.x, s32 e.y) :: walkVisits n (edgeStep e).1

/-- The E_* registers after Walk has taken `n` rows (R146). -/
def walkEnd : Nat → EdgeRegs → EdgeRegs
  | 0, e => e
  | n + 1, e => walkEnd n (edgeStep e).1

/-- EDGE_INIT (R148): RES0 gets the height, with no half-sample adjustment and no toggle. A scale exponent above 4 is
not a command: it raises ILLEGAL as R91 says of its word, before any operand check (R244; DEDUCED,
notes/assumptions/12.md, safe). -/
def execEdgeInit (k : BitVec 3) (s : State) : Host.Outcome State Fault Refusal :=
  if edgeScaleOk k = false then .next (raiseIn (.edgeInit k) .illegal s)
  else if s.coords4Ok = false then .next (raiseIn (.edgeInit k) .range s)
  else
    .next ((s.setEdge (edgeInit s.sArg0 s.sArg1 s.sArg2 s.sArg3 k.toNat).1).setRes0
      (w32 (edgeInit s.sArg0 s.sArg1 s.sArg2 s.sArg3 k.toNat).2))

/-- EDGE_STEP (R149): RES0 gets the new remaining height. -/
def execEdgeStep (s : State) : Host.Outcome State Fault Refusal :=
  .next ((s.setEdge (edgeStep s.edge).1).setRes0 (w32 (edgeStep s.edge).2))

end Sys2Proof.Machine
end

