-- ==== Sys2Proof/Machine/EdgeFlagFill.lean ====
section
/-! DEFINITION. The edge-flag fill of 42_edge_flag_fill.md: where a sample toggles (R170, R171), the clip rule (R172),
DrawEdge (R168, R169), and the commands BEGIN_FILL, PATH_MOVE, PATH_LINE, PATH_CLOSE and EDGE_DRAW. -/

namespace Sys2Proof.Machine

/-- One flag bit, before clipping: pixel row, pixel column, and the bit in the entry. -/
structure FlagPos where
  row : Int
  col : Int
  bit : Nat
deriving DecidableEq, Repr

/-- Where the sample point (x, y) toggles: the pixel itself in BW mode (R170); in AA mode bit y & 7 of pixel row y >> 3,
in the column that the sub-row's dither offset gives (R171). -/
def flagPos (aa : Bool) (c : Config) (v : Int × Int) : FlagPos :=
  if aa then
    { row := v.2 / 8, col := (v.1 + (dither c (v.2 % 8).toNat : Int)) / 8, bit := (v.2 % 8).toNat }
  else { row := v.2, col := v.1, bit := 0 }

/-- The column a toggle lands in: clamped to [0, SURF_W] (R172). -/
def clipCol (w : Nat) (col : Int) : Nat := min col.toNat w

/-- Whether a toggle's row is outside the flag buffer, so that the toggle is dropped (R172). -/
def rowOutside (h : Nat) (row : Int) : Bool := decide (row < 0) || decide (row > h)

/-- Whether a toggle's column is outside the flag buffer, so that it is clamped (R172). -/
def colOutside (w : Nat) (col : Int) : Bool := decide (col < 0) || decide (col > w)

/-- Apply one toggle under the clip rule (R172): CLIP is noted, and FB[row][col] is XOR-ed with the bit unless the row
is outside the buffer. -/
def applyToggle (p : FlagPos) (s : State) : State :=
  if rowOutside (u32 s.surfH) p.row then s.noteClip true
  else
    (s.noteClip (colOutside (u32 s.surfW) p.col)).fbWrite p.row.toNat (clipCol (u32 s.surfW) p.col)
      (s.fbRead p.row.toNat (clipCol (u32 s.surfW) p.col) ^^^ (1#8 <<< p.bit))

/-- Toggle(x, y) in the current mode (R170 or R171, then R172). -/
def toggle (s : State) (v : Int × Int) : State := applyToggle (flagPos s.status.aa s.cfg v) s

/-- The scale exponent of fill stepping: 4 in BW mode, 1 in AA mode (R169). -/
def fillScale (aa : Bool) : Nat := if aa then 1 else 4

/-- The half-sample adjustment: 8 in BW mode, 1 in AA mode (R168). -/
def halfSample (aa : Bool) : Int := if aa then 1 else 8

/-- The edge that DrawEdge loads: both points moved by the half-sample adjustment (R168, R169). -/
def fillEdge (aa : Bool) (x0 y0 x1 y1 : Int) : EdgeRegs × Int :=
  edgeInit (x0 - halfSample aa) (y0 - halfSample aa) (x1 - halfSample aa) (y1 - halfSample aa) (fillScale aa)

/-- The sample points that DrawEdge visits, in order (R146, R169). -/
def edgeSamples (aa : Bool) (x0 y0 x1 y1 : Int) : List (Int × Int) :=
  walkVisits (fillEdge aa x0 y0 x1 y1).2.toNat (fillEdge aa x0 y0 x1 y1).1

/-- DrawEdge(x0, y0, x1, y1): toggle at every sample point, and leave the exhausted edge in the E_* registers (R169). -/
def drawEdge (x0 y0 x1 y1 : Int) (s : State) : State :=
  ((edgeSamples s.status.aa x0 y0 x1 y1).foldl toggle s).setEdge
    (walkEnd (fillEdge s.status.aa x0 y0 x1 y1).2.toNat (fillEdge s.status.aa x0 y0 x1 y1).1)

/-- BEGIN_FILL (R160). -/
def execBeginFill (s : State) : Host.Outcome State Fault Refusal :=
  if s.status.state ≠ .idle then .next (raiseIn .beginFill .seq s)
  else .next ((((seedBBox s).setPathOpen false).setPath { s.path with n := 0 }).setContext .filling)

/-- PATH_MOVE (R161). -/
def execPathMove (s : State) : Host.Outcome State Fault Refusal :=
  if s.fillingClosed = false then .next (raiseIn .pathMove .seq s)
  else if s.coords2Ok = false then .next (raiseIn .pathMove .range s)
  else
    .next (((growBBox s.sArg0 s.sArg1 s).setPath
      { n := 1, fx := w32 s.sArg0, fy := w32 s.sArg1, px := w32 s.sArg0, py := w32 s.sArg1 }).setPathOpen true)

/-- PATH_N + 1, saturating at 0xFFFFFFFF (R162, R35). -/
def nextPathN (n : Word) : Word := if n = 0xFFFFFFFF#32 then n else w32 ((u32 n : Int) + 1)

/-- PATH_LINE (R162). -/
def execPathLine (s : State) : Host.Outcome State Fault Refusal :=
  if s.fillingOpen = false then .next (raiseIn .pathLine .seq s)
  else if s.coords2Ok = false then .next (raiseIn .pathLine .range s)
  else
    .next ((drawEdge (s32 s.path.px) (s32 s.path.py) s.sArg0 s.sArg1 (growBBox s.sArg0 s.sArg1 s)).setPath
      { s.path with px := w32 s.sArg0, py := w32 s.sArg1, n := nextPathN s.path.n })

/-- PATH_CLOSE (R163). DEGENERATE clears PATH_OPEN as well (R242 (a)). -/
def execPathClose (s : State) : Host.Outcome State Fault Refusal :=
  if s.fillingOpen = false then .next (raiseIn .pathClose .seq s)
  else if u32 s.path.n < 2 then .next (raiseIn .pathClose .degenerate (s.setPathOpen false))
  else
    .next ((drawEdge (s32 s.path.px) (s32 s.path.py) (s32 s.path.fx) (s32 s.path.fy) s).setPathOpen false)

/-- EDGE_DRAW (R166), legal with a path open or not. -/
def execEdgeDraw (s : State) : Host.Outcome State Fault Refusal :=
  if s.status.state ≠ .filling then .next (raiseIn .edgeDraw .seq s)
  else if s.coords4Ok = false then .next (raiseIn .edgeDraw .range s)
  else
    .next (drawEdge s.sArg0 s.sArg1 s.sArg2 s.sArg3
      (growBBox s.sArg2 s.sArg3 (growBBox s.sArg0 s.sArg1 s)))

end Sys2Proof.Machine
end

