-- ==== Sys2Proof/Machine/ScanCoverage.lean ====
section
/-! DEFINITION. The scan of 43_scan_coverage.md: its range (R192), the BW and AA pixel decision (R193), the colour ramp
(R196, R197), and the command END_FILL (R190, R194, R195). -/

namespace Sys2Proof.Machine

/-- One lane of ramp entry i: round-half-up interpolation from stroke to fill (R196). -/
def rampLane (stroke fill : Word) (i j : Nat) : Nat := (lane stroke j * (8 - i) + lane fill j * i + 4) / 8

/-- Ramp entry i (R196). -/
def rampEntry (stroke fill : Word) (i : Nat) : Word :=
  laneWord (rampLane stroke fill i 3) (rampLane stroke fill i 2) (rampLane stroke fill i 1) (rampLane stroke fill i 0)

/-- The whole ramp, RAMP0..RAMP8 (R196). -/
def rampOf (stroke fill : Word) : Vector Word 9 :=
  #v[rampEntry stroke fill 0, rampEntry stroke fill 1, rampEntry stroke fill 2, rampEntry stroke fill 3,
    rampEntry stroke fill 4, rampEntry stroke fill 5, rampEntry stroke fill 6, rampEntry stroke fill 7,
    rampEntry stroke fill 8]

/-- RampUpdate(): recompute the ramp and clear RAMP_DIRTY (R196). -/
def rampUpdate (s : State) : State := (s.setRamp (rampOf s.strokeColor s.fillColor)).setRampDirty false

/-- RAMP[n] for a coverage n in 0..8 (R193, R199). -/
def rampAt (ramp : Vector Word 9) (n : Nat) : Word := ramp.get (Fin.ofNat 9 n)

/-- clamp(v, 0, hi) as an index (R12, R192). -/
def clampIndex (v : Int) (hi : Nat) : Nat := (min (max v 0) (hi : Int)).toNat

/-- The indices from lo to hi, both inclusive, ascending. -/
def indexRange (lo hi : Nat) : List Nat := List.range' lo (hi + 1 - lo)

/-- The rows r0..r1 that END_FILL scans (R192), computed from the box (DEDUCED, notes/assumptions/19.md, safe). -/
def scanRows (s : State) : List Nat :=
  indexRange (clampIndex (s32 s.bbox.minY / 16) (u32 s.surfH)) (clampIndex (ceilDiv (s32 s.bbox.maxY) 4) (u32 s.surfH))

/-- The columns c0..c1 that END_FILL scans (R192). -/
def scanCols (s : State) : List Nat :=
  indexRange (clampIndex (s32 s.bbox.minX / 16) (u32 s.surfW)) (clampIndex (ceilDiv (s32 s.bbox.maxX) 4) (u32 s.surfW))

/-- The PixelWrite, if any, that the accumulator `acc` asks for at (c, r): none without the surface, none in the guard
row and column; in BW mode FILL_COLOR while acc[0] is set; in AA mode RAMP[n] for a coverage n > 0 (R193). -/
def pixelAt (ok : Bool) (s : State) (r c : Nat) (acc : Byte) : List PortEvent :=
  if ok && decide (r < u32 s.surfH) && decide (c < u32 s.surfW) then
    if s.status.aa then
      if popcount acc > 0 then [.pixel c r (rampAt s.ramp (popcount acc))] else []
    else if acc.getLsbD 0 then [.pixel c r s.fillColor] else []
  else []

/-- One row of Scan(ok): each entry is XOR-ed into the accumulator and cleared, and then the pixel is decided (R193).
Gives the buffer and the PixelWrites, in order. -/
def scanRow (ok : Bool) (s : State) (r : Nat) : List Nat → Byte → Memory → Memory × List PortEvent
  | [], _, fb => (fb, [])
  | c :: cs, acc, fb =>
    let acc' := acc ^^^ Memory.read fb (fbKey r c)
    let rest := scanRow ok s r cs acc' (Memory.write fb (fbKey r c) 0)
    (rest.1, pixelAt ok s r c acc' ++ rest.2)

/-- Scan(ok) over the given rows and columns, rows ascending (R193). -/
def scanAll (ok : Bool) (s : State) (cols : List Nat) : List Nat → Memory → Memory × List PortEvent
  | [], fb => (fb, [])
  | r :: rs, fb =>
    let row := scanRow ok s r cols 0 fb
    let rest := scanAll ok s cols rs row.1
    (rest.1, row.2 ++ rest.2)

/-- Scan(ok): drain the buffer and issue the PixelWrites (R192, R193). -/
def scan (ok : Bool) (s : State) : State :=
  emit (scanAll ok s (scanCols s) (scanRows s) s.fb).2 (s.setFb (scanAll ok s (scanCols s) (scanRows s) s.fb).1)

/-- The lazy recomputation: AA mode recomputes a dirty ramp before it scans, BW mode never does (R197). -/
def rampIfDirty (s : State) : State := if s.status.aa && s.status.rampDirty then rampUpdate s else s

/-- The body of END_FILL once its state check has passed, with the surface's answer `ok` (R190, R194). -/
def endFillBody (ok : Bool) (s : State) : State :=
  if ok then emit [.release] (scan true (surfaceAcquire s))
  else scan false (raiseIn .endFill .surface (surfaceAcquire s))

/-- END_FILL (R190). -/
def execEndFill (s : State) : Host.Outcome State Fault Refusal :=
  if s.fillingClosed = false then .next (raiseIn .endFill .seq s)
  else .next ((endFillBody s.surfaceAnswer (rampIfDirty s)).setContext .idle)

end Sys2Proof.Machine
end

