-- ==== Sys2Proof/Machine/Context.lean ====
section
/-! DEFINITION. The context commands of 44_context.md: NOP, INIT, DEINIT, SET_MODE, SET_FILL, SET_STROKE, RAMP_UPDATE and
CLR_ERR. -/

namespace Sys2Proof.Machine

/-- NOP (R210). -/
def execNop (s : State) : Host.Outcome State Fault Refusal := .next s

/-- The size check of INIT: 1 <= W <= MAX_W and 1 <= H <= MAX_H, read unsigned (R211). -/
def State.sizeOk (s : State) : Bool :=
  decide (1 ≤ s.uArg0) && decide (s.uArg0 ≤ s.cfg.maxW) && decide (1 ≤ s.uArg1) && decide (s.uArg1 ≤ s.cfg.maxH)

/-- ZeroFB(): every entry of the buffer is 0, so nothing is listed (R212). -/
def zeroFb (s : State) : State := s.setFb []

/-- InitEffects() (R213). -/
def initEffects (s : State) : State :=
  ((((seedBBox s).setPathOpen false).setPath { n := 0, fx := 0, fy := 0, px := 0, py := 0 }).setRampDirty true).setContext
    .idle

/-- INIT (R211). -/
def execInit (s : State) : Host.Outcome State Fault Refusal :=
  if s.status.state ≠ .unbound then .next (raiseIn .init .seq s)
  else if s.sizeOk = false then .next (raiseIn .init .alloc s)
  else .next (initEffects (zeroFb ((s.setSurfW s.args.arg0).setSurfH s.args.arg1)))

/-- DeinitEffects() (R215). The spec lets a model keep or discard the flag buffer's contents, which nothing reads while
UNBOUND; they are discarded (DESIGN CHOICE,
notes/assumptions/6.md, unsafe for a claim about the buffer's contents while UNBOUND and safe for every other). -/
def deinitEffects (s : State) : State :=
  ((((s.setContext .unbound).setPathOpen false).setSurfW 0).setSurfH 0).setFb []

/-- DEINIT (R214). -/
def execDeinit (s : State) : Host.Outcome State Fault Refusal :=
  if s.status.state = .unbound then .next (raiseIn .deinit .seq s)
  else .next (deinitEffects s)

/-- SET_MODE (R216). -/
def execSetMode (aa : Bool) (s : State) : Host.Outcome State Fault Refusal :=
  if s.status.state = .filling then .next (raiseIn (.setMode aa) .seq s)
  else .next (s.setAa aa)

/-- SET_FILL (R217): RAMP_DIRTY is set only when the colour changes. -/
def execSetFill (s : State) : Host.Outcome State Fault Refusal :=
  .next ((s.setRampDirty (s.status.rampDirty || decide (s.args.arg0 ≠ s.fillColor))).setFillColor s.args.arg0)

/-- SET_STROKE (R218): RAMP_DIRTY is set only when the colour changes. -/
def execSetStroke (s : State) : Host.Outcome State Fault Refusal :=
  .next ((s.setRampDirty (s.status.rampDirty || decide (s.args.arg0 ≠ s.strokeColor))).setStrokeColor s.args.arg0)

/-- RAMP_UPDATE (R219), whether the ramp is dirty or not. -/
def execRampUpdate (s : State) : Host.Outcome State Fault Refusal := .next (rampUpdate s)

/-- CLR_ERR (R220). -/
def execClrErr (s : State) : Host.Outcome State Fault Refusal := .next (clearFault s)

end Sys2Proof.Machine
end

