-- ==== Sys2Proof/Machine/Dispatch.lean ====
section
/-! DEFINITION. The meaning of every command, one arm per constructor of Instr. -/

namespace Sys2Proof.Machine

def exec (i : Instr) (s : State) : Host.Outcome State Fault Refusal :=
  match i with
  | .nop => Sys2Proof.Machine.execNop s
  | .init => Sys2Proof.Machine.execInit s
  | .deinit => Sys2Proof.Machine.execDeinit s
  | .setMode aa => Sys2Proof.Machine.execSetMode aa s
  | .setFill => Sys2Proof.Machine.execSetFill s
  | .setStroke => Sys2Proof.Machine.execSetStroke s
  | .rampUpdate => Sys2Proof.Machine.execRampUpdate s
  | .clrErr => Sys2Proof.Machine.execClrErr s
  | .beginFill => Sys2Proof.Machine.execBeginFill s
  | .pathMove => Sys2Proof.Machine.execPathMove s
  | .pathLine => Sys2Proof.Machine.execPathLine s
  | .pathClose => Sys2Proof.Machine.execPathClose s
  | .edgeDraw => Sys2Proof.Machine.execEdgeDraw s
  | .endFill => Sys2Proof.Machine.execEndFill s
  | .fdivmod => Sys2Proof.Machine.execFdivmod s
  | .ceil k => Sys2Proof.Machine.execCeil k s
  | .popcnt => Sys2Proof.Machine.execPopcnt s
  | .edgeInit k => Sys2Proof.Machine.execEdgeInit k s
  | .edgeStep => Sys2Proof.Machine.execEdgeStep s

end Sys2Proof.Machine
end

