-- ==== Sys2Proof/Machine/Bus.lean ====
section
/-! DEFINITION. The host bus of 20_memory.md: the register map (10_state.md R21), BusRead and BusWrite (R61), the
accesses that are not defined (R62, R63), running a written command word (R37, R91), and serving what the host does
next (R76, R101, R270). -/

namespace Sys2Proof.Machine

/-- The registers of R21 by name. -/
inductive RegName where
  | id | status | cmd | arg0 | arg1 | arg2 | arg3 | res0 | res1 | errCmd | fillColor | strokeColor | surfW | surfH
  | bboxMinX | bboxMinY | bboxMaxX | bboxMaxY | eX | eStep | eNum | eDen | eErr | eY | eH
  | pathN | pathFx | pathFy | pathPx | pathPy | caps | perm | ramp (i : Fin 9)
deriving DecidableEq, Repr

/-- The register at a window offset (R21); nothing at a reserved offset (R39). -/
def regAt (off : Nat) : Option RegName :=
  match off with
  | 0x00 => some .id
  | 0x04 => some .status
  | 0x08 => some .cmd
  | 0x0C => some .arg0
  | 0x10 => some .arg1
  | 0x14 => some .arg2
  | 0x18 => some .arg3
  | 0x1C => some .res0
  | 0x20 => some .res1
  | 0x24 => some .errCmd
  | 0x28 => some .fillColor
  | 0x2C => some .strokeColor
  | 0x30 => some .surfW
  | 0x34 => some .surfH
  | 0x38 => some .bboxMinX
  | 0x3C => some .bboxMinY
  | 0x40 => some .bboxMaxX
  | 0x44 => some .bboxMaxY
  | 0x48 => some .eX
  | 0x4C => some .eStep
  | 0x50 => some .eNum
  | 0x54 => some .eDen
  | 0x58 => some .eErr
  | 0x5C => some .eY
  | 0x60 => some .eH
  | 0x64 => some .pathN
  | 0x68 => some .pathFx
  | 0x6C => some .pathFy
  | 0x70 => some .pathPx
  | 0x74 => some .pathPy
  | 0x78 => some .caps
  | 0x7C => some .perm
  | 0x80 => some (.ramp 0)
  | 0x84 => some (.ramp 1)
  | 0x88 => some (.ramp 2)
  | 0x8C => some (.ramp 3)
  | 0x90 => some (.ramp 4)
  | 0x94 => some (.ramp 5)
  | 0x98 => some (.ramp 6)
  | 0x9C => some (.ramp 7)
  | 0xA0 => some (.ramp 8)
  | _ => none

/-- The window offset of a register (R21). -/
def regOffset : RegName → Nat
  | .id => 0x00
  | .status => 0x04
  | .cmd => 0x08
  | .arg0 => 0x0C
  | .arg1 => 0x10
  | .arg2 => 0x14
  | .arg3 => 0x18
  | .res0 => 0x1C
  | .res1 => 0x20
  | .errCmd => 0x24
  | .fillColor => 0x28
  | .strokeColor => 0x2C
  | .surfW => 0x30
  | .surfH => 0x34
  | .bboxMinX => 0x38
  | .bboxMinY => 0x3C
  | .bboxMaxX => 0x40
  | .bboxMaxY => 0x44
  | .eX => 0x48
  | .eStep => 0x4C
  | .eNum => 0x50
  | .eDen => 0x54
  | .eErr => 0x58
  | .eY => 0x5C
  | .eH => 0x60
  | .pathN => 0x64
  | .pathFx => 0x68
  | .pathFy => 0x6C
  | .pathPx => 0x70
  | .pathPy => 0x74
  | .caps => 0x78
  | .perm => 0x7C
  | .ramp i => 0x80 + 4 * i.val

/-- What a register reads as (R21): the constants of R38, 0 for the write-only CMD (R37), and the stored value for every
other. -/
def State.reg (s : State) : RegName → Word
  | .id => 0x46504231#32
  | .status => statusWord s.status
  | .cmd => 0
  | .arg0 => s.args.arg0
  | .arg1 => s.args.arg1
  | .arg2 => s.args.arg2
  | .arg3 => s.args.arg3
  | .res0 => s.res0
  | .res1 => s.res1
  | .errCmd => s.errCmd
  | .fillColor => s.fillColor
  | .strokeColor => s.strokeColor
  | .surfW => s.surfW
  | .surfH => s.surfH
  | .bboxMinX => s.bbox.minX
  | .bboxMinY => s.bbox.minY
  | .bboxMaxX => s.bbox.maxX
  | .bboxMaxY => s.bbox.maxY
  | .eX => s.edge.x
  | .eStep => s.edge.step
  | .eNum => s.edge.num
  | .eDen => s.edge.den
  | .eErr => s.edge.err
  | .eY => s.edge.y
  | .eH => s.edge.h
  | .pathN => s.path.n
  | .pathFx => s.path.fx
  | .pathFy => s.path.fy
  | .pathPx => s.path.px
  | .pathPy => s.path.py
  | .caps => capsWord s.cfg
  | .perm => permWord s.cfg
  | .ramp i => s.ramp.get i

/-- BusRead(off): the register there, 0 at a reserved offset; no side effect (R61, R65). -/
def busRead (off : Nat) (s : State) : Word :=
  match regAt off with
  | some r => s.reg r
  | none => 0

/-- Run the command word `w` (R37): a word that does not decode raises ILLEGAL and has no other effect (R91), and any
other runs its command to completion (R65). -/
def runCommand (w : Word) (s : State) : Host.Outcome State Fault Refusal :=
  match decode w with
  | .ok i => exec i s
  | .error _ => .next (raiseFault .illegal w s)

/-- BusWrite(off, w): ARG0..ARG3 store, CMD executes, every other offset ignores the write (R61). -/
def busWrite (off : Nat) (w : Word) (s : State) : Host.Outcome State Fault Refusal :=
  match regAt off with
  | some .cmd => runCommand w s
  | some .arg0 => .next (s.setArgs { s.args with arg0 := w })
  | some .arg1 => .next (s.setArgs { s.args with arg1 := w })
  | some .arg2 => .next (s.setArgs { s.args with arg2 := w })
  | some .arg3 => .next (s.setArgs { s.args with arg3 := w })
  | _ => .next s

/-- The window offset of a bus access, or why the spec does not define the access: its width (R62), its place outside
the window at BASE (R60, R63), or its alignment (R63). The three refusals are safe (DEDUCED,
notes/assumptions/9.md). -/
def windowOffset (c : Config) (bits addr : Nat) : Except Refusal Nat :=
  if bits ≠ 32 then .error .busWidth
  else if addr < c.base ∨ c.base + 0x100 ≤ addr then .error .busWindow
  else if (addr - c.base) % 4 ≠ 0 then .error .busAlignment
  else .ok (addr - c.base)

/-- A bus read returns its word to the host: the model keeps it in its read log. -/
def returnRead (w : Word) (s : State) : State := s.setEnv { s.env with readLog := s.env.readLog ++ [w] }

/-- Set what the host does next. -/
def setPending (ops : List HostOp) (s : State) : State := s.setEnv { s.env with pending := ops }

/-- Serve one bus access (R61 to R63). -/
def busAccess (a : BusAccess) (s : State) : Host.Outcome State Fault Refusal :=
  match a with
  | .read bits addr =>
    match windowOffset s.cfg bits addr with
    | .error e => .refused e
    | .ok off => .next (returnRead (busRead off s) s)
  | .write bits addr w =>
    match windowOffset s.cfg bits addr with
    | .error e => .refused e
    | .ok off => busWrite off w s

/-- Serve one thing the host does, with the operations after it in `rest`: a bus access, the end of a loop (R101: read,
and go round again unless the value came), or a hardware reset (R270). -/
def serveOp (op : HostOp) (rest : List HostOp) (s : State) : Host.Outcome State Fault Refusal :=
  match op with
  | .access a => busAccess a (setPending rest s)
  | .untilRead body addr value =>
    match windowOffset s.cfg 32 addr with
    | .error e => .refused e
    | .ok off =>
      .next (returnRead (busRead off s)
        (setPending (if busRead off s = value then rest else body.map .access ++ .untilRead body addr value :: rest) s))
  | .reset => .next (hardwareReset (setPending rest s))

/-- Serve the next thing the host does, in the order it does them (R76). With nothing to serve the block is idle and
keeps all its state (R255; DESIGN CHOICE, notes/assumptions/4.md, safe). -/
def serve (s : State) : Host.Outcome State Fault Refusal :=
  match s.env.pending with
  | [] => .next s
  | op :: rest => serveOp op rest s

/-- Put a write of `w` to CMD in front of what the host does next. -/
def pushCommand (w : Word) (s : State) : State :=
  setPending (.access (.write 32 (s.cfg.base + regOffset .cmd) w) :: s.env.pending) s

end Sys2Proof.Machine
end

