-- ==== Sys2Proof/Machine/Step.lean ====
section
/-! DEFINITION. One step of FPATH-R: the next bus access of the host, which for a write to CMD is one whole command
(70_reset_and_hazards.md R278; notes/assumptions/1.md). -/

namespace Sys2Proof.Machine

/-- One step (R76, R278). -/
def step (s : State) : Host.Outcome State Fault Refusal := serve s

/-- The state in which the very next step runs the command whose lowest `nbits` bits are those of `w`, the others 0: the
host's next bus access is a write of that word to CMD (R37). FPATH-R fetches nothing (R80): a program is the host's, and
comes from outside the machine (DESIGN CHOICE, notes/assumptions/1.md, safe). -/
def State.withFetchWord (s : State) (nbits w : Nat) : State := pushCommand (BitVec.ofNat 32 (w % 2 ^ nbits)) s

end Sys2Proof.Machine
end

