-- ==== Sys2Proof/Machine/Assembler.lean ====
section
/-! DEFINITION. Host programs as 30_encoding.md writes them: operand values and raw operations (R98), command lines and
their mnemonics (R99), the pseudo-commands (R100) and the host's loop (R101), each with the bus accesses it expands to.
A line is taken after its text has been read (DESIGN CHOICE, notes/assumptions/14.md, safe). The block itself sees only the bus accesses. -/

namespace Sys2Proof.Machine

/-- A value in an operand position (R98, R100). -/
inductive AsmValue where
  /-- A decimal integer, stored as w32. -/
  | dec (v : Int)
  /-- A hexadecimal word. -/
  | hex (w : Word)
  /-- `px(num/den)`: 16 times the pixel position num/den, usable only where that is an integer. -/
  | px (num : Int) (den : Nat)
deriving DecidableEq, Repr

/-- The word a value stands for, if it is usable (R98, R100). -/
def asmWord : AsmValue → Option Word
  | .dec v => some (w32 v)
  | .hex w => some w
  | .px num den => if den ≠ 0 ∧ (16 * num) % (den : Int) = 0 then some (w32 (16 * num / (den : Int))) else none

/-- A line of a host program (R98 to R100). -/
inductive AsmLine where
  /-- `wr <REG>, <value>`. -/
  | wr (r : RegName) (v : AsmValue)
  /-- `rd <REG>`. R98 lets a program compare the result with `== <value>` and does not say what a comparison that fails
  does outside `until`: a plain `rd` line has no comparison here, its result only goes to the read log, and only the end
  of a loop compares (DESIGN CHOICE, notes/assumptions/14.md, safe). -/
  | rd (r : RegName)
  /-- `<mnemonic> [<op0>[, <op1>[, <op2>[, <op3>]]]]`. -/
  | command (i : Instr) (ops : List AsmValue)
  /-- `draw_path (x0,y0), (x1,y1), ...`. -/
  | drawPath (points : List (AsmValue × AsmValue))
  /-- `fill_path (x0,y0), (x1,y1), ...`. -/
  | fillPath (points : List (AsmValue × AsmValue))
deriving DecidableEq, Repr

/-- A host program is a sequence of lines and loops (R98, R101). R101 says only that the host repeats "the lines
between": a loop's body is lines here, so loops do not nest (DESIGN CHOICE, notes/assumptions/14.md, safe). -/
inductive AsmItem where
  | line (l : AsmLine)
  /-- `repeat` body `until rd <REG> == <value>`. -/
  | repeatUntil (body : List AsmLine) (r : RegName) (v : AsmValue)
deriving DecidableEq, Repr

/-- The text of a command line's mnemonic: the lower-case name of R94 with its modifier (R99). -/
def asmName : Instr → String
  | .nop => "nop"
  | .init => "init"
  | .deinit => "deinit"
  | .setMode aa => if aa then "set_mode.aa" else "set_mode.bw"
  | .setFill => "set_fill"
  | .setStroke => "set_stroke"
  | .rampUpdate => "ramp_update"
  | .clrErr => "clr_err"
  | .beginFill => "begin_fill"
  | .pathMove => "path_move"
  | .pathLine => "path_line"
  | .pathClose => "path_close"
  | .edgeDraw => "edge_draw"
  | .endFill => "end_fill"
  | .fdivmod => "fdivmod"
  | .ceil k => "ceil.k" ++ toString k.toNat
  | .popcnt => "popcnt"
  | .edgeInit k => "edge_init.k" ++ toString k.toNat
  | .edgeStep => "edge_step"

/-- `wr <REG>, <word>` as a bus write (R98). -/
def asmWrite (c : Config) (r : RegName) (w : Word) : BusAccess := .write 32 (c.base + regOffset r) w

/-- The ARG writes of a command line, in order; more than four operands are no line (R99). -/
def asmArgs (c : Config) : List RegName → List AsmValue → Option (List BusAccess)
  | _, [] => some []
  | [], _ :: _ => none
  | r :: rs, v :: vs =>
    match asmWord v, asmArgs c rs vs with
    | some w, some as => some (asmWrite c r w :: as)
    | _, _ => none

/-- A command line: its ARG writes and then its CMD write (R99). -/
def asmCommand (c : Config) (i : Instr) (ops : List AsmValue) : Option (List BusAccess) :=
  match asmArgs c [.arg0, .arg1, .arg2, .arg3] ops with
  | some as => if i.wf then some (as ++ [asmWrite c .cmd (encode i)]) else none
  | none => none

/-- The lines of path_line for the points after the first (R100). -/
def asmLines (c : Config) : List (AsmValue × AsmValue) → Option (List BusAccess)
  | [] => some []
  | p :: ps =>
    match asmCommand c .pathLine [p.1, p.2], asmLines c ps with
    | some a, some as => some (a ++ as)
    | _, _ => none

/-- `draw_path`: path_move, then path_line for each further point, then path_close (R100). -/
def asmDrawPath (c : Config) : List (AsmValue × AsmValue) → Option (List BusAccess)
  | [] => none
  | p :: ps =>
    match asmCommand c .pathMove [p.1, p.2], asmLines c ps, asmCommand c .pathClose [] with
    | some a, some as, some z => some (a ++ as ++ z)
    | _, _, _ => none

/-- `fill_path`: begin_fill, draw_path, end_fill (R100). -/
def asmFillPath (c : Config) (points : List (AsmValue × AsmValue)) : Option (List BusAccess) :=
  match asmCommand c .beginFill [], asmDrawPath c points, asmCommand c .endFill [] with
  | some a, some as, some z => some (a ++ as ++ z)
  | _, _, _ => none

/-- The bus accesses a line expands to (R98 to R100). -/
def asmExpand (c : Config) : AsmLine → Option (List BusAccess)
  | .wr r v => (asmWord v).map fun w => [asmWrite c r w]
  | .rd r => some [.read 32 (c.base + regOffset r)]
  | .command i ops => asmCommand c i ops
  | .drawPath points => asmDrawPath c points
  | .fillPath points => asmFillPath c points

/-- The bus accesses of consecutive lines. -/
def asmExpandAll (c : Config) : List AsmLine → Option (List BusAccess)
  | [] => some []
  | l :: ls =>
    match asmExpand c l, asmExpandAll c ls with
    | some a, some as => some (a ++ as)
    | _, _ => none

/-- What the host does for a program item; a loop runs its body once before its first test (R101). -/
def asmItem (c : Config) : AsmItem → Option (List HostOp)
  | .line l => (asmExpand c l).map fun as => as.map .access
  | .repeatUntil body r v =>
    match asmExpandAll c body, asmWord v with
    | some as, some w => some (as.map .access ++ [.untilRead as (c.base + regOffset r) w])
    | _, _ => none

/-- What the host does for a whole program. -/
def asmProgram (c : Config) : List AsmItem → Option (List HostOp)
  | [] => some []
  | i :: is =>
    match asmItem c i, asmProgram c is with
    | some a, some as => some (a ++ as)
    | _, _ => none

end Sys2Proof.Machine
end

