-- ==== Sys2Proof/Safety.lean ====
section
/-! DEFINITION. The terms in which claims about FPATH-R are stated: what a run may never break (the invariants of
10_state.md), where each command is legal (60_exceptions.md R243), what a recorded fault leaves (R242), which flags an
edge toggles (42_edge_flag_fill.md), and what the destination surface shows (20_memory.md R73, R77). -/

namespace Sys2Proof.Machine

/-- The state in which the fault `c` of the command word `w` has been recorded and nothing else has changed (R242). -/
def afterFault (c : FaultCode) (w : Word) (s : State) : State :=
  if s.status.err then s
  else { s with status := { s.status with err := true, errCode := c }, errCmd := w }

/-- The legality table of R243: whether a command proceeds in the given STATE and PATH_OPEN. -/
def legalIn (i : Instr) (st : ContextState) (pathOpen : Bool) : Bool :=
  match i with
  | .nop => true
  | .init => decide (st = .unbound)
  | .deinit => decide (st ≠ .unbound)
  | .setMode _ => decide (st ≠ .filling)
  | .setFill => true
  | .setStroke => true
  | .rampUpdate => true
  | .clrErr => true
  | .beginFill => decide (st = .idle)
  | .pathMove => decide (st = .filling) && !pathOpen
  | .pathLine => decide (st = .filling) && pathOpen
  | .pathClose => decide (st = .filling) && pathOpen
  | .edgeDraw => decide (st = .filling)
  | .endFill => decide (st = .filling) && !pathOpen
  | .fdivmod => true
  | .ceil _ => true
  | .popcnt => true
  | .edgeInit _ => true
  | .edgeStep => true

/-- The machine's invariant: what 10_state.md says of every state between commands. -/
structure State.Inv (s : State) : Prop where
  /-- The configuration is within the bounds of R8. -/
  cfg_wf : s.cfg.wf = true
  /-- A bound context has a surface of a size INIT accepts (R32). -/
  bound : s.status.state ≠ .unbound →
    1 ≤ u32 s.surfW ∧ u32 s.surfW ≤ s.cfg.maxW ∧ 1 ≤ u32 s.surfH ∧ u32 s.surfH ≤ s.cfg.maxH
  /-- An unbound context has none (R32). -/
  unbound : s.status.state = .unbound → s.surfW = 0 ∧ s.surfH = 0
  /-- PATH_OPEN is 0 whenever STATE is not FILLING (R24). -/
  path_filling : s.status.pathOpen = true → s.status.state = .filling
  /-- An open path has at least one vertex (R35). -/
  path_started : s.status.pathOpen = true → 1 ≤ u32 s.path.n
  /-- ERRCODE and ERRCMD are 0 while ERR is 0 (R36, R241). -/
  no_err : s.status.err = false → s.status.errCode = .none ∧ s.errCmd = 0
  /-- A recorded fault has a code (R241, R242). -/
  some_err : s.status.err = true → s.status.errCode ≠ .none
  /-- The bounding box covers the surface while it is bound (R34). -/
  bbox_covers : s.status.state ≠ .unbound →
    s32 s.bbox.minX ≤ 0 ∧ s32 s.bbox.minY ≤ 0 ∧ 16 * (u32 s.surfW : Int) ≤ s32 s.bbox.maxX ∧
      16 * (u32 s.surfH : Int) ≤ s32 s.bbox.maxY
  /-- The flag buffer has its canonical form (the model's, notes/assumptions/5.md). -/
  fb_wf : Memory.wf s.fb = true
  /-- No entry outside the flag buffer is listed (R66, R68). -/
  fb_inside : ∀ c ∈ s.fb, c.1 / 2 ^ 32 ≤ u32 s.surfH ∧ c.1 % 2 ^ 32 ≤ u32 s.surfW
  /-- In BW mode only bit 0 of an entry is ever set (R40). -/
  fb_bw : s.status.aa = false → ∀ c ∈ s.fb, c.2 = 1
  /-- Between fills every entry is 0 (R41); that UNBOUND lists none is the model's choice (notes/assumptions/6.md). -/
  fb_idle : s.status.state ≠ .filling → s.fb = []

/-- A coordinate the edge rules can meet: a legal operand, possibly moved by the half-sample adjustment (R147). -/
def edgeCoordOk (v : Int) : Bool := decide (-32776 ≤ v) && decide (v ≤ 32767)

/-- The E_* registers hold what the edge rules leave: zero after reset, or an edge loaded from coordinates that R147
allows and stepped at most to its end (R30). -/
def EdgeLoaded (e : EdgeRegs) : Prop :=
  e = { x := 0, step := 0, num := 0, den := 0, err := 0, y := 0, h := 0 } ∨
    ∃ (x0 y0 x1 y1 : Int) (k j : Nat),
      edgeCoordOk x0 = true ∧ edgeCoordOk y0 = true ∧ edgeCoordOk x1 = true ∧ edgeCoordOk y1 = true ∧ k ≤ 4 ∧
        j ≤ (edgeInit x0 y0 x1 y1 k).2.toNat ∧ e = walkEnd j (edgeInit x0 y0 x1 y1 k).1

/-- The edge and path registers hold only what commands can leave there (R30, R35). -/
structure State.EdgeInv (s : State) : Prop where
  edge : EdgeLoaded s.edge
  first_x : coordOk (s32 s.path.fx) = true
  first_y : coordOk (s32 s.path.fy) = true
  prev_x : coordOk (s32 s.path.px) = true
  prev_y : coordOk (s32 s.path.py) = true

/-- The key of the entry and the bit that the sample point `v` toggles, under the clip rule; nothing when its row is
dropped (R170 to R172). -/
def toggleCell (s : State) (v : Int × Int) : Option (Nat × Nat) :=
  if rowOutside (u32 s.surfH) (flagPos s.status.aa s.cfg v).row then none
  else
    some (fbKey (flagPos s.status.aa s.cfg v).row.toNat (clipCol (u32 s.surfW) (flagPos s.status.aa s.cfg v).col),
      (flagPos s.status.aa s.cfg v).bit)

/-- Whether the clip rule drops or clamps the sample point `v` (R172). -/
def toggleClipped (s : State) (v : Int × Int) : Bool :=
  rowOutside (u32 s.surfH) (flagPos s.status.aa s.cfg v).row ||
    colOutside (u32 s.surfW) (flagPos s.status.aa s.cfg v).col

/-- `m` is the flag buffer of `s` after one toggle for each of the sample points `vs`: a bit of an entry has changed
exactly when an odd number of them toggle it, and every entry that none of them toggles is as before (R167, R172). -/
def FbToggled (s : State) (vs : List (Int × Int)) (m : Memory) : Prop :=
  ∀ a b : Nat, b < 8 →
    (Memory.read m a).getLsbD b =
      ((Memory.read s.fb a).getLsbD b ^^ decide ((vs.countP fun v => toggleCell s v = some (a, b)) % 2 = 1))

/-- `s` after the edge from (x0, y0) to (x1, y1) has been drawn, with `m` for its flag buffer: CLIP notes every clipped
sample point, the E_* registers hold the exhausted edge, and nothing else has changed (R169, R172, R175). -/
def afterDraw (x0 y0 x1 y1 : Int) (m : Memory) (s : State) : State :=
  { s with
    status := { s.status with
      clip := s.status.clip || (edgeSamples s.status.aa x0 y0 x1 y1).any (toggleClipped s) },
    edge := walkEnd (fillEdge s.status.aa x0 y0 x1 y1).2.toNat (fillEdge s.status.aa x0 y0 x1 y1).1,
    fb := m }

/-- The bounding box grown by the point (x, y) (R164). -/
def grownBBox (b : BBoxRegs) (x y : Int) : BBoxRegs :=
  { minX := w32 (min (s32 b.minX) x), minY := w32 (min (s32 b.minY) y),
    maxX := w32 (max (s32 b.maxX) x), maxY := w32 (max (s32 b.maxY) y) }

/-- The running accumulator of a row scan after column `c`: the XOR of the entries FB[r][0..c] (R193). -/
def runningXor (s : State) (r c : Nat) : Byte := (List.range (c + 1)).foldl (fun a j => a ^^^ s.fbRead r j) 0

/-- The ramp END_FILL paints with in AA mode: recomputed when it is dirty (R197). -/
def paintRamp (s : State) (n : Nat) : Word :=
  if s.status.rampDirty then rampEntry s.strokeColor s.fillColor n else rampAt s.ramp n

/-- The PixelWrite of a BW fill at (c, r), if the pixel is inside (R193). -/
def bwPixel (s : State) (r c : Nat) : List PortEvent :=
  if (runningXor s r c).getLsbD 0 then [.pixel c r s.fillColor] else []

/-- The PixelWrite of an AA fill at (c, r), if its coverage is not 0 (R193). -/
def aaPixel (s : State) (r c : Nat) : List PortEvent :=
  if popcount (runningXor s r c) > 0 then [.pixel c r (paintRamp s (popcount (runningXor s r c)))] else []

/-- The painted pixels of the surface in scan order: rows ascending, columns ascending (R74). -/
def scanOrder (s : State) (px : Nat → Nat → List PortEvent) : List PortEvent :=
  (List.range (u32 s.surfH)).flatMap fun r => (List.range (u32 s.surfW)).flatMap fun c => px r c

/-- `s` after an END_FILL that passed its state check: AA mode has recomputed a dirty ramp, the buffer is drained, STATE
is IDLE, the surface has been asked once, and the transactions `es` have followed its answer (R190, R195, R197, R198). -/
def afterEndFill (es : List PortEvent) (s : State) : State :=
  { s with
    status := { s.status with state := .idle, rampDirty := s.status.rampDirty && !s.status.aa },
    ramp := if s.status.aa && s.status.rampDirty then rampOf s.strokeColor s.fillColor else s.ramp,
    fb := [],
    env := { s.env with
      portLog := s.env.portLog ++ .acquire s.surfaceAnswer :: es, answers := s.env.answers.tail,
      acquires := s.env.acquires + 1 } }

/-- The coordinates of the PixelWrites among some transactions, in order. -/
def pixelCoords (es : List PortEvent) : List (Nat × Nat) :=
  es.filterMap fun e => match e with
    | .pixel x y _ => some (x, y)
    | .acquire _ => none
    | .release => none

/-- The surface's pixel (x, y) after the transactions, in order, over the background `bg`: each PixelWrite replaces its
pixel and nothing else changes one (R73). -/
def surfacePixel (bg : Nat → Nat → Word) (es : List PortEvent) (x y : Nat) : Word :=
  es.foldl (fun w e => match e with
    | .pixel px py colour => if px = x ∧ py = y then colour else w
    | .acquire _ => w
    | .release => w) (bg x y)

/-- Go on with `f` after a command has completed. -/
def thenDo (o : Host.Outcome State Fault Refusal) (f : State → Host.Outcome State Fault Refusal) :
    Host.Outcome State Fault Refusal :=
  match o with
  | .next s => f s
  | .fault r => .fault r
  | .refused r => .refused r

/-- The command `i` with ARG0 and ARG1 written first. -/
def execAt (i : Instr) (p : Word × Word) (s : State) : Host.Outcome State Fault Refusal :=
  exec i { s with args := { s.args with arg0 := p.1, arg1 := p.2 } }

/-- PATH_LINE to each of the points, in order, and then PATH_CLOSE (R100, R165). -/
def linesAndClose : List (Word × Word) → State → Host.Outcome State Fault Refusal
  | [], s => exec .pathClose s
  | p :: ps, s => thenDo (execAt .pathLine p s) (linesAndClose ps)

/-- A whole path: PATH_MOVE to its first point, PATH_LINE to each other, PATH_CLOSE (R100, R165). -/
def drawPath (p : Word × Word) (ps : List (Word × Word)) (s : State) : Host.Outcome State Fault Refusal :=
  thenDo (execAt .pathMove p s) (linesAndClose ps)

/-- The XOR of all entries of a row: a bit is set when the row has an odd number of toggles of it (R174). -/
def rowXor (s : State) (r : Nat) : Byte := runningXor s r (u32 s.surfW)

/-- The machine after the host's next operation has been taken from its list. -/
def State.tookOp (s : State) (rest : List HostOp) : State := { s with env := { s.env with pending := rest } }

end Sys2Proof.Machine
end

