-- ==== Sys2Proof/Certificates/Slice0/Obligations.lean ====
section
/-! DEFINITION. The statements about FPATH-R, each from the numbered rules of spec/ (OBLIGATIONS.json lists them with
the rules they cite). -/

open Sys2Proof Sys2Proof.Machine

/-! ### Encoding -/

/-- R91 to R97: the decoder gives a command exactly for that command's one legal word. -/
def Obligations.DecodeInvertsEncode : Prop :=
  ∀ (w : Word) (i : Instr), decode w = .ok i ↔ i.wf = true ∧ encode i = w

/-- R96: the words that are illegal, and no others, by opcode, reserved field, modifier mask (R92) and edge scale. -/
def Obligations.IllegalWordsAreRejected : Prop :=
  ∀ w : Word, (∃ e, decode w = .error e) ↔
    let op := w.toNat / 2 ^ 24
    let z := w.toNat / 2 ^ 8 % 2 ^ 16
    let m := w.toNat % 2 ^ 8
    (0x08 ≤ op ∧ op ≤ 0x0F) ∨ (0x16 ≤ op ∧ op ≤ 0x1F) ∨ 0x25 ≤ op ∨ z ≠ 0 ∨
      (if op = 0x03 then 2 ≤ m else if op = 0x21 then 16 ≤ m else if op = 0x23 then 5 ≤ m else m ≠ 0)

/-- R94: command words written out from the opcode map decode to the commands they stand for. -/
def Obligations.SampleWordsDecode : Prop :=
  decode 0x00000000#32 = .ok .nop ∧ decode 0x03000001#32 = .ok (.setMode true) ∧ decode 0x10000000#32 = .ok .beginFill ∧
    decode 0x15000000#32 = .ok .endFill ∧ decode 0x21000004#32 = .ok (.ceil 4) ∧
    decode 0x23000001#32 = .ok (.edgeInit 1) ∧ decode 0x24000000#32 = .ok .edgeStep

/-! ### The bus and the step -/

/-- R37, R65, R90: a step whose next bus access writes a command's word to CMD runs that command to completion. -/
def Obligations.StepRunsDecodedCommand : Prop :=
  ∀ (s : State) (rest : List HostOp) (w : Word) (i : Instr),
    s.env.pending = .access (.write 32 (s.cfg.base + 0x08) w) :: rest → decode w = .ok i →
      step s = exec i (s.tookOp rest)

/-- R91, R242: a written word that does not decode raises ILLEGAL, and that has no other effect. -/
def Obligations.IllegalCommandIsRecorded : Prop :=
  ∀ (s : State) (rest : List HostOp) (w : Word) (e : DecodeError),
    s.env.pending = .access (.write 32 (s.cfg.base + 0x08) w) :: rest → decode w = .error e →
      step s = .next (afterFault .illegal w (s.tookOp rest))

/-- R28, R61: a bus write to an operand register stores the word and does nothing else. -/
def Obligations.StepWritesArgument : Prop :=
  ∀ (s : State) (rest : List HostOp) (off : Nat) (w : Word),
    s.env.pending = .access (.write 32 (s.cfg.base + off) w) :: rest →
      (off = 0x0C → step s = .next { s.tookOp rest with args := { s.args with arg0 := w } }) ∧
      (off = 0x10 → step s = .next { s.tookOp rest with args := { s.args with arg1 := w } }) ∧
      (off = 0x14 → step s = .next { s.tookOp rest with args := { s.args with arg2 := w } }) ∧
      (off = 0x18 → step s = .next { s.tookOp rest with args := { s.args with arg3 := w } })

/-- R61, R65: a bus read returns the register at its offset and has no side effect. The read log is the model's own
record of what the host got (notes/assumptions/4.md). -/
def Obligations.StepReadsRegister : Prop :=
  ∀ (s : State) (rest : List HostOp) (off : Nat),
    s.env.pending = .access (.read 32 (s.cfg.base + off)) :: rest → off < 0x100 → off % 4 = 0 →
      step s = .next { s with
        env := { s.env with pending := rest, readLog := s.env.readLog ++ [busRead off s] } }

/-- R21: what each offset of the register map reads as, CAPS, PERM (R38) and the reserved offsets (R39) included. -/
def Obligations.RegisterMapReads : Prop :=
  ∀ s : State,
    busRead 0x00 s = 0x46504231#32 ∧ busRead 0x04 s = statusWord s.status ∧ busRead 0x08 s = 0 ∧
    busRead 0x0C s = s.args.arg0 ∧ busRead 0x10 s = s.args.arg1 ∧ busRead 0x14 s = s.args.arg2 ∧
    busRead 0x18 s = s.args.arg3 ∧ busRead 0x1C s = s.res0 ∧ busRead 0x20 s = s.res1 ∧ busRead 0x24 s = s.errCmd ∧
    busRead 0x28 s = s.fillColor ∧ busRead 0x2C s = s.strokeColor ∧ busRead 0x30 s = s.surfW ∧
    busRead 0x34 s = s.surfH ∧ busRead 0x38 s = s.bbox.minX ∧ busRead 0x3C s = s.bbox.minY ∧
    busRead 0x40 s = s.bbox.maxX ∧ busRead 0x44 s = s.bbox.maxY ∧ busRead 0x48 s = s.edge.x ∧
    busRead 0x4C s = s.edge.step ∧ busRead 0x50 s = s.edge.num ∧ busRead 0x54 s = s.edge.den ∧
    busRead 0x58 s = s.edge.err ∧ busRead 0x5C s = s.edge.y ∧ busRead 0x60 s = s.edge.h ∧ busRead 0x64 s = s.path.n ∧
    busRead 0x68 s = s.path.fx ∧ busRead 0x6C s = s.path.fy ∧ busRead 0x70 s = s.path.px ∧
    busRead 0x74 s = s.path.py ∧ busRead 0x78 s = BitVec.ofNat 16 s.cfg.maxH ++ BitVec.ofNat 16 s.cfg.maxW ∧
    (∀ k : Fin 8, (busRead 0x7C s).extractLsb' (4 * k.val) 3 = s.cfg.perm.get k ∧
      (busRead 0x7C s).getLsbD (4 * k.val + 3) = false) ∧
    (∀ i : Fin 9, busRead (0x80 + 4 * i.val) s = s.ramp.get i) ∧
    ∀ off : Nat, 0xA4 ≤ off → off ≤ 0xFC → busRead off s = 0

/-- R22, R241: the fields of the register STATUS. -/
def Obligations.StatusRegisterFields : Prop :=
  ∀ s : State,
    ((busRead 0x04 s).extractLsb' 0 2).toNat =
      (match s.status.state with | .unbound => 0 | .idle => 1 | .filling => 2) ∧
    (busRead 0x04 s).getLsbD 2 = s.status.pathOpen ∧ (busRead 0x04 s).getLsbD 3 = s.status.aa ∧
    (busRead 0x04 s).getLsbD 4 = s.status.rampDirty ∧ (busRead 0x04 s).getLsbD 5 = s.status.clip ∧
    (busRead 0x04 s).getLsbD 6 = s.status.err ∧ (busRead 0x04 s).getLsbD 7 = false ∧
    ((busRead 0x04 s).extractLsb' 8 4).toNat =
      (match s.status.errCode with
        | .none => 0 | .illegal => 1 | .seq => 2 | .alloc => 3 | .domain => 4 | .range => 5 | .degenerate => 6
        | .surface => 7) ∧
    ((busRead 0x04 s).extractLsb' 12 20).toNat = 0

/-- R38: the constant registers, and that no step changes what fixes them. -/
def Obligations.ConstantRegisters : Prop :=
  (∀ s : State,
    busRead 0x00 s = 0x46504231#32 ∧
    (busRead 0x78 s).extractLsb' 0 16 = BitVec.ofNat 16 s.cfg.maxW ∧
    (busRead 0x78 s).extractLsb' 16 16 = BitVec.ofNat 16 s.cfg.maxH ∧
    (∀ k : Fin 8, (busRead 0x7C s).extractLsb' (4 * k.val) 3 = s.cfg.perm.get k ∧
      (busRead 0x7C s).getLsbD (4 * k.val + 3) = false) ∧
    (s.cfg = Config.reference → busRead 0x78 s = 0x01000100#32 ∧ busRead 0x7C s = 0x46152037#32)) ∧
  ∀ s t : State, step s = .next t → t.cfg = s.cfg

/-- R39: the reserved offsets read 0 and ignore writes. The read log that shows the 0 is the model's own
(notes/assumptions/4.md). -/
def Obligations.ReservedOffsets : Prop :=
  ∀ (s : State) (rest : List HostOp) (off : Nat) (w : Word), 0xA4 ≤ off → off ≤ 0xFC → off % 4 = 0 →
    (s.env.pending = .access (.read 32 (s.cfg.base + off)) :: rest →
      step s = .next { s with env := { s.env with pending := rest, readLog := s.env.readLog ++ [0] } }) ∧
    (s.env.pending = .access (.write 32 (s.cfg.base + off) w) :: rest → step s = .next (s.tookOp rest))

/-- R21, R61: a write to a read-only or reserved offset is ignored. -/
def Obligations.ReadOnlyWritesAreIgnored : Prop :=
  ∀ (s : State) (rest : List HostOp) (off : Nat) (w : Word), off < 0x100 → off % 4 = 0 → off ≠ 0x08 → off ≠ 0x0C →
    off ≠ 0x10 → off ≠ 0x14 → off ≠ 0x18 →
    s.env.pending = .access (.write 32 (s.cfg.base + off) w) :: rest → step s = .next (s.tookOp rest)

/-- R62, R63: an access of another width, outside the window, or misaligned is refused: the model has no step for it.
The three names and the order in which they are checked are the model's (notes/assumptions/9.md). -/
def Obligations.UndefinedAccessesAreRefused : Prop :=
  ∀ (s : State) (rest : List HostOp) (bits addr : Nat) (w : Word),
    (s.env.pending = .access (.read bits addr) :: rest ∨ s.env.pending = .access (.write bits addr w) :: rest) →
      (bits ≠ 32 → step s = .refused .busWidth) ∧
      (bits = 32 → (addr < s.cfg.base ∨ s.cfg.base + 0x100 ≤ addr) → step s = .refused .busWindow) ∧
      (bits = 32 → s.cfg.base ≤ addr → addr < s.cfg.base + 0x100 → (addr - s.cfg.base) % 4 ≠ 0 →
        step s = .refused .busAlignment)

/-- R101: the end of the host's loop reads the register, goes on when it has the awaited value, and otherwise runs the
body and reads again. The list of what the host does next is the model's own (notes/assumptions/4.md). -/
def Obligations.LoopRepeatsUntilValue : Prop :=
  ∀ (s : State) (rest : List HostOp) (body : List BusAccess) (off : Nat) (v : Word), off < 0x100 → off % 4 = 0 →
    s.env.pending = .untilRead body (s.cfg.base + off) v :: rest →
      step s = .next { s with
        env := { s.env with
          pending :=
            if busRead off s = v then rest
            else body.map .access ++ .untilRead body (s.cfg.base + off) v :: rest,
          readLog := s.env.readLog ++ [busRead off s] } }

/-! ### Reset -/

/-- R270, R271: what the register map reads right after reset, in the reference configuration. -/
def Obligations.ResetRegisterValues : Prop :=
  busRead 0x00 State.reset = 0x46504231#32 ∧ busRead 0x04 State.reset = 0x00000010#32 ∧
    busRead 0x78 State.reset = 0x01000100#32 ∧ busRead 0x7C State.reset = 0x46152037#32 ∧
    ∀ k < 64, k ≠ 0 → k ≠ 1 → k ≠ 30 → k ≠ 31 → busRead (4 * k) State.reset = 0

/-- R270: a hardware reset of any state gives every register its reset value, keeps the configuration, and issues no
surface transaction. That it also leaves the host's remaining list alone is the model's choice
(notes/assumptions/10.md). -/
def Obligations.HardwareResetEffect : Prop :=
  ∀ (s : State) (rest : List HostOp), s.env.pending = .reset :: rest →
    ∃ t, step s = .next t ∧ t.cfg = s.cfg ∧ t.status.state = .unbound ∧ busRead 0x04 t = 0x00000010#32 ∧
      (∀ k < 64, k ≠ 0 → k ≠ 1 → k ≠ 30 → k ≠ 31 → busRead (4 * k) t = 0) ∧
      t.env = { s.env with pending := rest }

/-! ### Fixed-point helpers -/

/-- R121: FloorDivMod returns the floor quotient and the remainder, for every integer and positive divisor. -/
def Obligations.FloorDivModLaw : Prop :=
  ∀ n d : Int, 0 < d →
    n = (floorDivMod n d).1 * d + (floorDivMod n d).2 ∧ 0 ≤ (floorDivMod n d).2 ∧ (floorDivMod n d).2 < d ∧
      ∀ q : Int, q * d ≤ n ↔ q ≤ (floorDivMod n d).1

/-- R120, R126: FDIVMOD completes for every positive divisor, with the exact quotient and remainder in RES0 and RES1
(no result wraps) and nothing else changed. -/
def Obligations.FdivmodResult : Prop :=
  ∀ s : State, 0 < s32 s.args.arg1 →
    ∃ q r : Word, exec .fdivmod s = .next { s with res0 := q, res1 := r } ∧
      s32 s.args.arg0 = s32 q * s32 s.args.arg1 + s32 r ∧ 0 ≤ s32 r ∧ s32 r < s32 s.args.arg1

/-- R120: a divisor that is not positive raises DOMAIN and changes nothing else. -/
def Obligations.FdivmodDomainFault : Prop :=
  ∀ s : State, s32 s.args.arg1 ≤ 0 → exec .fdivmod s = .next (afterFault .domain 0x20000000#32 s)

/-- R123: Ceil(v, k) is the smallest integer c with c*2^k >= v, for every integer v and every k, and equals the floor
form. -/
def Obligations.CeilIsSmallestInteger : Prop :=
  ∀ (v : Int) (k : Nat),
    ceilDiv v k = v / 2 ^ k + (if v % 2 ^ k ≠ 0 then 1 else 0) ∧ (∀ c : Int, v ≤ c * 2 ^ k ↔ ceilDiv v k ≤ c) ∧
      ceilDiv v k = (v + 2 ^ k - 1) / 2 ^ k

/-- R122, R126: CEIL completes for every operand and scale, with the exact ceiling in RES0 and nothing else changed. -/
def Obligations.CeilResult : Prop :=
  ∀ (s : State) (k : BitVec 4),
    ∃ r : Word, exec (.ceil k) s = .next { s with res0 := r } ∧
      s32 s.args.arg0 ≤ s32 r * 2 ^ k.toNat ∧ (s32 r - 1) * 2 ^ k.toNat < s32 s.args.arg0

/-- R124: POPCNT completes with the number of 1 bits of ARG0 in RES0 and nothing else changed. -/
def Obligations.PopcntResult : Prop :=
  ∀ s : State,
    ∃ r : Word, exec .popcnt s = .next { s with res0 := r } ∧
      r.toNat = ((Finset.range 32).filter fun i => s.args.arg0.getLsbD i = true).card

/-! ### Edge stepper -/

/-- R141, R143, R148: EDGE_INIT completes for legal operands and scale, with the loaded edge in the E_* registers and
the height in RES0; (xa, ya) and (xb, yb) are its points ordered top to bottom. Nothing else changes. That two points
on one height keep the order in which they are given is the model's reading of R141 (notes/assumptions/11.md). -/
def Obligations.EdgeInitLoadsEdge : Prop :=
  ∀ (s : State) (k : BitVec 3) (xa ya xb yb : Int), edgeScaleOk k = true → s.coords4Ok = true →
    ((s.sArg1 ≤ s.sArg3 ∧ xa = s.sArg0 ∧ ya = s.sArg1 ∧ xb = s.sArg2 ∧ yb = s.sArg3) ∨
      (s.sArg3 < s.sArg1 ∧ xa = s.sArg2 ∧ ya = s.sArg3 ∧ xb = s.sArg0 ∧ yb = s.sArg1)) →
    ∃ (e : EdgeRegs) (h : Int),
      exec (.edgeInit k) s = .next { s with edge := e, res0 := w32 h } ∧
      h = ceilDiv yb k.toNat - ceilDiv ya k.toNat ∧ 0 ≤ h ∧ s32 (w32 h) = h ∧
      s32 e.y = ceilDiv ya k.toNat ∧ s32 e.h = h ∧
      if h = 0 then
        s32 e.x = ceilDiv xa k.toNat ∧ e.step = 0 ∧ e.num = 0 ∧ e.den = 1 ∧ e.err = 0
      else
        s32 e.den = 2 ^ k.toNat * (yb - ya) ∧
        s32 e.step * s32 e.den + s32 e.num = (xb - xa) * 2 ^ k.toNat ∧ 0 ≤ s32 e.num ∧ s32 e.num < s32 e.den ∧
        s32 e.x * s32 e.den + s32 e.err =
          xa * (yb - ya) + (xb - xa) * (ceilDiv ya k.toNat * 2 ^ k.toNat - ya) + s32 e.den - 1 ∧
        0 ≤ s32 e.err ∧ s32 e.err < s32 e.den

/-- R148, R244: EDGE_INIT with a coordinate outside the legal range raises RANGE, and with a scale exponent above 4
raises ILLEGAL first; either changes nothing else. -/
def Obligations.EdgeInitFaults : Prop :=
  ∀ (s : State) (k : BitVec 3),
    (k.toNat ≤ 4 → s.coords4Ok = false → exec (.edgeInit k) s = .next (afterFault .range (encode (.edgeInit k)) s)) ∧
    (4 < k.toNat → exec (.edgeInit k) s = .next (afterFault .illegal (encode (.edgeInit k)) s))

/-- R144: EDGE_STEP on the registers that commands can leave: one row further with a carried remainder while rows remain,
and no change when none do. The new remaining height is in RES0. -/
def Obligations.EdgeStepAdvances : Prop :=
  ∀ s : State, EdgeLoaded s.edge →
    ∃ e : EdgeRegs, exec .edgeStep s = .next { s with edge := e, res0 := e.h } ∧
      if s.edge.h = 0 then e = s.edge
      else
        e.step = s.edge.step ∧ e.num = s.edge.num ∧ e.den = s.edge.den ∧
        s32 e.y = s32 s.edge.y + 1 ∧ s32 e.h = s32 s.edge.h - 1 ∧
        if s32 s.edge.err + s32 s.edge.num ≥ s32 s.edge.den then
          s32 e.x = s32 s.edge.x + s32 s.edge.step + 1 ∧
            s32 e.err = s32 s.edge.err + s32 s.edge.num - s32 s.edge.den
        else s32 e.x = s32 s.edge.x + s32 s.edge.step ∧ s32 e.err = s32 s.edge.err + s32 s.edge.num

/-- R145: after j steps the registers of an edge with rows give the exact ceiling of its x on row ys + j; and the edge
given from its bottom end loads the same registers. -/
def Obligations.EdgeWalkIsExact : Prop :=
  ∀ (x0 y0 x1 y1 : Int) (k j : Nat),
    edgeCoordOk x0 = true → edgeCoordOk y0 = true → edgeCoordOk x1 = true → edgeCoordOk y1 = true → k ≤ 4 → y0 ≤ y1 →
    0 < ceilDiv y1 k - ceilDiv y0 k → (j : Int) ≤ ceilDiv y1 k - ceilDiv y0 k →
    let e := walkEnd j (edgeInit x0 y0 x1 y1 k).1
    let ys := ceilDiv y0 k
    let a := x0 * (y1 - y0) + (x1 - x0) * (ys * 2 ^ k - y0) + 2 ^ k * (y1 - y0) - 1
    edgeInit x1 y1 x0 y0 k = edgeInit x0 y0 x1 y1 k ∧ s32 e.y = ys + j ∧ s32 e.h = ceilDiv y1 k - ys - j ∧ s32 e.den = 2 ^ k * (y1 - y0) ∧
      s32 e.x * s32 e.den + s32 e.err = a + j * (x1 - x0) * 2 ^ k ∧ 0 ≤ s32 e.err ∧ s32 e.err < s32 e.den ∧
      s32 e.x = (a + j * (x1 - x0) * 2 ^ k) / (2 ^ k * (y1 - y0)) ∧
      ∀ c : Int, s32 e.x ≤ c ↔
        x0 * (y1 - y0) + (x1 - x0) * ((ys + j) * 2 ^ k - y0) ≤ c * 2 ^ k * (y1 - y0)

/-- R30: the ranges of the E_* registers whatever commands have run. -/
def Obligations.EdgeRegistersInRange : Prop :=
  ∀ e : EdgeRegs, EdgeLoaded e →
    -65536 ≤ s32 e.x ∧ s32 e.x ≤ 65536 ∧ -65543 ≤ s32 e.step ∧ s32 e.step ≤ 65543 ∧ 0 ≤ s32 e.num ∧
      0 ≤ s32 e.den ∧ s32 e.den ≤ 1048688 ∧ 0 ≤ s32 e.err ∧ -32776 ≤ s32 e.y ∧ s32 e.y ≤ 32776 ∧ 0 ≤ s32 e.h ∧
      s32 e.h ≤ 65543 ∧ (s32 e.den = 0 → s32 e.num = 0 ∧ s32 e.err = 0) ∧
      (s32 e.den ≠ 0 → s32 e.num < s32 e.den ∧ s32 e.err < s32 e.den)

/-- R146, R168, R173: DrawEdge visits exactly the sample rows that the edge crosses, top row first, each at the first
sample column whose sample lies at or right of the edge; and it visits the same points in either direction. -/
def Obligations.EdgeSamplesAreExact : Prop :=
  ∀ (aa : Bool) (x0 y0 x1 y1 : Int),
    coordOk x0 = true → coordOk y0 = true → coordOk x1 = true → coordOk y1 = true → y0 ≤ y1 →
    let scale : Int := if aa then 2 else 16
    let a : Int := if aa then 1 else 8
    (∀ c r : Int, (c, r) ∈ edgeSamples aa x0 y0 x1 y1 ↔
      y0 ≤ scale * r + a ∧ scale * r + a < y1 ∧
        ∀ d : Int, c ≤ d ↔ (x1 - x0) * (scale * r + a - y0) ≤ (y1 - y0) * (scale * d + a - x0)) ∧
      (edgeSamples aa x0 y0 x1 y1).Pairwise (fun v w => v.2 < w.2) ∧
      edgeSamples aa x1 y1 x0 y0 = edgeSamples aa x0 y0 x1 y1

/-! ### Edge-flag fill -/

/-- R160: BEGIN_FILL completes in IDLE: it seeds the box, clears PATH_N and PATH_OPEN, and enters FILLING. -/
def Obligations.BeginFillStartsFill : Prop :=
  ∀ s : State, s.status.state = .idle →
    exec .beginFill s = .next { s with
      status := { s.status with state := .filling, pathOpen := false },
      bbox := { minX := 0, minY := 0, maxX := 16#32 * s.surfW, maxY := 16#32 * s.surfH },
      path := { s.path with n := 0 } }

/-- R161: PATH_MOVE completes for a legal vertex in FILLING with no path open. -/
def Obligations.PathMoveStartsPath : Prop :=
  ∀ s : State, s.status.state = .filling → s.status.pathOpen = false → s.coords2Ok = true →
    exec .pathMove s = .next { s with
      status := { s.status with pathOpen := true },
      bbox := grownBBox s.bbox s.sArg0 s.sArg1,
      path := { n := 1, fx := s.args.arg0, fy := s.args.arg1, px := s.args.arg0, py := s.args.arg1 } }

/-- R162, R169, R172, R175: PATH_LINE completes for a legal vertex with a path open: the edge from the previous vertex
toggles the flag buffer, and the vertex is counted and becomes the previous one. -/
def Obligations.PathLineDrawsEdge : Prop :=
  ∀ s : State, Memory.wf s.fb = true → s.status.state = .filling → s.status.pathOpen = true → s.coords2Ok = true →
    ∃ m : Memory, Memory.wf m = true ∧
      FbToggled s (edgeSamples s.status.aa (s32 s.path.px) (s32 s.path.py) s.sArg0 s.sArg1) m ∧
      exec .pathLine s = .next { afterDraw (s32 s.path.px) (s32 s.path.py) s.sArg0 s.sArg1 m s with
        bbox := grownBBox s.bbox s.sArg0 s.sArg1,
        path := { s.path with
          px := s.args.arg0, py := s.args.arg1,
          n := if s.path.n = 0xFFFFFFFF#32 then 0xFFFFFFFF#32 else s.path.n + 1 } }

/-- R163, R175: PATH_CLOSE of a path of at least two vertices completes: the wrap-around edge toggles the flag buffer
and the path is closed. -/
def Obligations.PathCloseDrawsWrapEdge : Prop :=
  ∀ s : State, Memory.wf s.fb = true → s.status.state = .filling → s.status.pathOpen = true → 2 ≤ u32 s.path.n →
    ∃ m : Memory, Memory.wf m = true ∧
      FbToggled s (edgeSamples s.status.aa (s32 s.path.px) (s32 s.path.py) (s32 s.path.fx) (s32 s.path.fy)) m ∧
      exec .pathClose s = .next
        ((afterDraw (s32 s.path.px) (s32 s.path.py) (s32 s.path.fx) (s32 s.path.fy) m s).setPathOpen false)

/-- R163, R242: PATH_CLOSE of a path of fewer than two vertices raises DEGENERATE, clears PATH_OPEN, and changes nothing
else. -/
def Obligations.PathCloseDegenerateFault : Prop :=
  ∀ s : State, s.status.state = .filling → s.status.pathOpen = true → u32 s.path.n < 2 →
    exec .pathClose s = .next
      (afterFault .degenerate 0x13000000#32 { s with status := { s.status with pathOpen := false } })

/-- R166, R175: EDGE_DRAW completes for legal operands in FILLING, whether a path is open or not: both points grow the
box and the edge toggles the flag buffer. -/
def Obligations.EdgeDrawDrawsEdge : Prop :=
  ∀ s : State, Memory.wf s.fb = true → s.status.state = .filling → s.coords4Ok = true →
    ∃ m : Memory, Memory.wf m = true ∧
      FbToggled s (edgeSamples s.status.aa s.sArg0 s.sArg1 s.sArg2 s.sArg3) m ∧
      exec .edgeDraw s = .next { afterDraw s.sArg0 s.sArg1 s.sArg2 s.sArg3 m s with
        bbox := grownBBox (grownBBox s.bbox s.sArg0 s.sArg1) s.sArg2 s.sArg3 }

/-- R93, R244: PATH_MOVE, PATH_LINE and EDGE_DRAW, where they are legal, raise RANGE for a coordinate outside the legal
range and change nothing else. -/
def Obligations.CoordinateRangeFaults : Prop :=
  ∀ s : State, s.status.state = .filling →
    (s.status.pathOpen = false → s.coords2Ok = false →
      exec .pathMove s = .next (afterFault .range 0x11000000#32 s)) ∧
    (s.status.pathOpen = true → s.coords2Ok = false →
      exec .pathLine s = .next (afterFault .range 0x12000000#32 s)) ∧
    (s.coords4Ok = false → exec .edgeDraw s = .next (afterFault .range 0x14000000#32 s))

/-- R171, R173: in AA mode a sample point of sub-row kk toggles a column at or left of pixel column p exactly when it
is at or left of the pixel's sample on that sub-row, sub-column 7 - PERM[kk]. -/
def Obligations.AaTogglePosition : Prop :=
  ∀ (c : Config) (x r p : Int) (kk : Fin 8),
    (flagPos true c (x, 8 * r + kk.val)).row = r ∧ (flagPos true c (x, 8 * r + kk.val)).bit = kk.val ∧
      ((flagPos true c (x, 8 * r + kk.val)).col ≤ p ↔ x ≤ 8 * p + (7 - ((c.perm.get kk).toNat : Int)))

/-- R142, R167: an edge drawn twice, the second time from its other end, leaves the flag buffer as it was. -/
def Obligations.DrawingTwiceCancels : Prop :=
  ∀ s : State, Memory.wf s.fb = true → s.status.state = .filling → s.coords4Ok = true →
    ∃ t u : State, exec .edgeDraw s = .next t ∧
      exec .edgeDraw { t with
        args := { arg0 := s.args.arg2, arg1 := s.args.arg3, arg2 := s.args.arg0, arg3 := s.args.arg1 } } = .next u ∧
      u.fb = s.fb

/-- R174: a closed path of at least two vertices toggles every flag bit of every row an even number of times, clipped
toggles counted: the XOR of each row's entries is as before. -/
def Obligations.ClosedPathKeepsRowParity : Prop :=
  ∀ (s : State) (p : Word × Word) (ps : List (Word × Word)), s.Inv → s.status.state = .filling →
    s.status.pathOpen = false → ps ≠ [] →
    (∀ q ∈ p :: ps, coordOk (s32 q.1) = true ∧ coordOk (s32 q.2) = true) →
    ∃ t : State, drawPath p ps s = .next t ∧ t.status.state = .filling ∧ t.status.pathOpen = false ∧
      ∀ r : Nat, rowXor t r = rowXor s r

/-! ### Scan, coverage and ramp -/

/-- R190, R193, R194: END_FILL in BW mode with the surface granted: it acquires, writes FILL_COLOR to the pixels whose
running parity is odd, in scan order, releases, drains the buffer and returns to IDLE. The port log and the answers are
the model's own (notes/assumptions/3.md). -/
def Obligations.EndFillBwPaintsParity : Prop :=
  ∀ s : State, s.Inv → s.status.state = .filling → s.status.pathOpen = false → s.status.aa = false →
    s.surfaceAnswer = true →
    exec .endFill s = .next (afterEndFill (scanOrder s (bwPixel s) ++ [.release]) s)

/-- R190, R193, R197: END_FILL in AA mode with the surface granted: the same with RAMP[n] for the pixels of coverage
n > 0, from a ramp that is recomputed first when it is dirty. The port log and the answers are the model's own
(notes/assumptions/3.md). -/
def Obligations.EndFillAaPaintsCoverage : Prop :=
  ∀ s : State, s.Inv → s.status.state = .filling → s.status.pathOpen = false → s.status.aa = true →
    s.surfaceAnswer = true →
    exec .endFill s = .next (afterEndFill (scanOrder s (aaPixel s) ++ [.release]) s)

/-- R72, R194: END_FILL with the surface refused records SURFACE, writes no pixel and releases nothing, and still drains
the buffer and returns to IDLE. The port log and the answers are the model's own (notes/assumptions/3.md). -/
def Obligations.EndFillSurfaceRefused : Prop :=
  ∀ s : State, s.Inv → s.status.state = .filling → s.status.pathOpen = false → s.surfaceAnswer = false →
    exec .endFill s = .next (afterEndFill [] (afterFault .surface 0x15000000#32 s))

/-- R198: after every END_FILL that passes its state check, every entry of the flag buffer is 0. -/
def Obligations.EndFillDrainsBuffer : Prop :=
  ∀ s t : State, s.Inv → s.status.state = .filling → s.status.pathOpen = false → exec .endFill s = .next t →
    ∀ r c : Nat, t.fbRead r c = 0

/-- R74: within one END_FILL the PixelWrites come in scan order, each pixel at most once; and each is on the surface
(R73). This holds in every state. The port log that shows the PixelWrites is the model's own
(notes/assumptions/3.md). -/
def Obligations.PixelWritesInScanOrder : Prop :=
  ∀ s t : State, exec .endFill s = .next t →
    ∃ es : List PortEvent, t.env.portLog = s.env.portLog ++ es ∧
      (pixelCoords es).Pairwise (fun p q => p.2 < q.2 ∨ p.2 = q.2 ∧ p.1 < q.1) ∧
      ∀ p ∈ pixelCoords es, p.1 < u32 s.surfW ∧ p.2 < u32 s.surfH

/-- R73, R77, R193: what the surface shows after a BW END_FILL it granted: FILL_COLOR where the running parity is odd,
and every other pixel as it was. The surface is outside the block: that it obeys the transactions is the model's reading
(notes/assumptions/15.md), and the port log is the model's own (notes/assumptions/3.md). -/
def Obligations.EndFillBwImage : Prop :=
  ∀ s : State, s.Inv → s.status.state = .filling → s.status.pathOpen = false → s.status.aa = false →
    s.surfaceAnswer = true →
    ∃ (t : State) (es : List PortEvent), exec .endFill s = .next t ∧ t.env.portLog = s.env.portLog ++ es ∧
      ∀ (bg : Nat → Nat → Word) (x y : Nat), surfacePixel bg es x y =
        if x < u32 s.surfW ∧ y < u32 s.surfH ∧ (runningXor s y x).getLsbD 0 = true then s.fillColor else bg x y

/-- R196, R219: RAMP_UPDATE completes in every state: each lane of each entry is the rounded interpolation, and
RAMP_DIRTY is cleared. -/
def Obligations.RampUpdateInterpolates : Prop :=
  ∀ s : State, ∃ v : Vector Word 9,
    exec .rampUpdate s = .next { s with status := { s.status with rampDirty := false }, ramp := v } ∧
      (∀ (i : Fin 9) (j : Fin 4), ((v.get i).extractLsb' (8 * j.val) 8).toNat =
        (lane s.strokeColor j.val * (8 - i.val) + lane s.fillColor j.val * i.val + 4) / 8) ∧
      v.get 0 = s.strokeColor ∧ v.get 8 = s.fillColor

/-! ### Context commands -/

/-- R210: NOP completes in every state and changes nothing. -/
def Obligations.NopChangesNothing : Prop := ∀ s : State, exec .nop s = .next s

/-- R211 to R213: INIT of a legal size completes in UNBOUND, binds the surface, zeroes the flag buffer and clears the
path. -/
def Obligations.InitBindsSurface : Prop :=
  ∀ s : State, s.status.state = .unbound → 1 ≤ u32 s.args.arg0 → u32 s.args.arg0 ≤ s.cfg.maxW →
    1 ≤ u32 s.args.arg1 → u32 s.args.arg1 ≤ s.cfg.maxH →
    ∃ m : Memory, (∀ a : Nat, Memory.read m a = 0) ∧
      exec .init s = .next { s with
        status := { s.status with state := .idle, pathOpen := false, rampDirty := true },
        surfW := s.args.arg0, surfH := s.args.arg1,
        bbox := { minX := 0, minY := 0, maxX := 16#32 * s.args.arg0, maxY := 16#32 * s.args.arg1 },
        path := { n := 0, fx := 0, fy := 0, px := 0, py := 0 }, fb := m }

/-- R211: INIT of an illegal size in UNBOUND raises ALLOC and changes nothing else. -/
def Obligations.InitAllocFault : Prop :=
  ∀ s : State, s.status.state = .unbound →
    (u32 s.args.arg0 < 1 ∨ s.cfg.maxW < u32 s.args.arg0 ∨ u32 s.args.arg1 < 1 ∨ s.cfg.maxH < u32 s.args.arg1) →
    exec .init s = .next (afterFault .alloc 0x01000000#32 s)

/-- R214, R215: DEINIT completes wherever a surface is bound, also during a fill. What the flag buffer then holds is
unspecified, so the statement leaves it open. -/
def Obligations.DeinitReleasesSurface : Prop :=
  ∀ s : State, s.status.state ≠ .unbound →
    ∃ m : Memory, exec .deinit s = .next { s with
      status := { s.status with state := .unbound, pathOpen := false }, surfW := 0, surfH := 0, fb := m }

/-- R216: SET_MODE completes outside a fill and writes AA alone. -/
def Obligations.SetModeSelectsStrategy : Prop :=
  ∀ (s : State) (a : Bool), s.status.state ≠ .filling →
    exec (.setMode a) s = .next { s with status := { s.status with aa := a } }

/-- R217, R218: SET_FILL and SET_STROKE complete in every state: the colour is ARG0, and RAMP_DIRTY is set exactly when
the colour changes. -/
def Obligations.ColourCommandsMarkRamp : Prop :=
  ∀ s : State,
    exec .setFill s = .next { s with
      fillColor := s.args.arg0,
      status := { s.status with rampDirty := if s.args.arg0 = s.fillColor then s.status.rampDirty else true } } ∧
    exec .setStroke s = .next { s with
      strokeColor := s.args.arg0,
      status := { s.status with rampDirty := if s.args.arg0 = s.strokeColor then s.status.rampDirty else true } }

/-- R220: CLR_ERR completes in every state: ERR, ERRCODE, ERRCMD and CLIP are cleared and nothing else changes. -/
def Obligations.ClrErrClearsStickyStatus : Prop :=
  ∀ s : State, exec .clrErr s = .next { s with
    status := { s.status with err := false, errCode := .none, clip := false }, errCmd := 0 }

/-! ### Faults and whole-machine rules -/

/-- R243: a command raises SEQ exactly where the legality table says so, and then changes nothing else. -/
def Obligations.LegalityTable : Prop :=
  ∀ (i : Instr) (s : State), i.wf = true →
    (legalIn i s.status.state s.status.pathOpen = false → exec i s = .next (afterFault .seq (encode i) s)) ∧
    (legalIn i s.status.state s.status.pathOpen = true → s.status.errCode ≠ .seq →
      ∃ t : State, exec i s = .next t ∧ t.status.errCode ≠ .seq)

/-- R240, R242: faults are precise: a command that sets ERR has only recorded its fault, but for PATH_CLOSE, which also
closes the path, and END_FILL, which ends the fill. -/
def Obligations.FaultsArePrecise : Prop :=
  ∀ (i : Instr) (s t : State), s.status.err = false → exec i s = .next t → t.status.err = true →
    (∃ c : FaultCode, c ≠ .none ∧ t = afterFault c (encode i) s) ∨
    (i = .pathClose ∧ t = afterFault .degenerate (encode i) { s with status := { s.status with pathOpen := false } }) ∨
    (i = .endFill ∧ t.status.errCode = .surface ∧ t.errCmd = encode i ∧ t.status.state = .idle)

/-- R27, R242: only CLR_ERR clears CLIP, ERR, ERRCODE and ERRCMD: every other command keeps the first fault and the
sticky flags. -/
def Obligations.StickyStatusIsKept : Prop :=
  ∀ (i : Instr) (s t : State), exec i s = .next t → i ≠ .clrErr →
    (s.status.clip = true → t.status.clip = true) ∧
      (s.status.err = true →
        t.status.err = true ∧ t.status.errCode = s.status.errCode ∧ t.errCmd = s.errCmd)

/-- R23: only INIT, DEINIT, BEGIN_FILL and END_FILL change STATE, each along its own transition. -/
def Obligations.ContextTransitions : Prop :=
  ∀ (i : Instr) (s t : State), exec i s = .next t → t.status.state ≠ s.status.state →
    (i = .init ∧ s.status.state = .unbound ∧ t.status.state = .idle) ∨
    (i = .deinit ∧ s.status.state ≠ .unbound ∧ t.status.state = .unbound) ∨
    (i = .beginFill ∧ s.status.state = .idle ∧ t.status.state = .filling) ∨
    (i = .endFill ∧ s.status.state = .filling ∧ t.status.state = .idle)

/-- R28, R29, R31, R32, R43: which commands may write the operand, result, colour and surface registers, the mode and
the configuration. -/
def Obligations.RegisterWriters : Prop :=
  ∀ (i : Instr) (s t : State), exec i s = .next t →
    t.cfg = s.cfg ∧ t.args = s.args ∧
    (t.res1 ≠ s.res1 → i = .fdivmod) ∧
    (t.res0 ≠ s.res0 → i = .fdivmod ∨ i = .popcnt ∨ i = .edgeStep ∨ (∃ k, i = .ceil k) ∨ ∃ k, i = .edgeInit k) ∧
    (t.fillColor ≠ s.fillColor → i = .setFill) ∧ (t.strokeColor ≠ s.strokeColor → i = .setStroke) ∧
    (t.surfW ≠ s.surfW ∨ t.surfH ≠ s.surfH → i = .init ∨ i = .deinit) ∧
    (t.status.aa ≠ s.status.aa → ∃ a, i = .setMode a) ∧ (t.ramp ≠ s.ramp → i = .rampUpdate ∨ i = .endFill)

/-! ### Invariants -/

/-- R24, R30, R32, R36, R41: reset leaves the machine within both invariants. The canonical form of the flag buffer and
that it lists nothing while UNBOUND are the model's choices (notes/assumptions/5.md, notes/assumptions/6.md). -/
def Obligations.InvariantAtReset : Prop := State.reset.Inv ∧ State.reset.EdgeInv

/-- R24, R32, R34, R36, R40, R41, R66, R68: every step keeps the machine's invariant, from every state that has it. The
canonical form of the flag buffer and that it lists nothing while UNBOUND are the model's choices
(notes/assumptions/5.md, notes/assumptions/6.md). -/
def Obligations.StepKeepsInvariant : Prop := ∀ s t : State, s.Inv → step s = .next t → t.Inv

/-- R30, R35: every step keeps the edge and path registers within what commands can leave there. -/
def Obligations.StepKeepsEdgeInvariant : Prop := ∀ s t : State, s.EdgeInv → step s = .next t → t.EdgeInv
end

