-- ==== Sys2Proof/Laws/State.lean ====
section
/-! SUPPORT. What each write of a field of State leaves in each field: one lemma per field per update, true by rfl, so
that no proof unfolds a record update. Then the same for the named changes of STATUS. -/

namespace Sys2Proof.Machine

@[simp] theorem State.setStatus_cfg (s : State) (v) : (s.setStatus v).cfg = s.cfg := rfl
@[simp] theorem State.setStatus_status (s : State) (v) : (s.setStatus v).status = v := rfl
@[simp] theorem State.setStatus_args (s : State) (v) : (s.setStatus v).args = s.args := rfl
@[simp] theorem State.setStatus_res0 (s : State) (v) : (s.setStatus v).res0 = s.res0 := rfl
@[simp] theorem State.setStatus_res1 (s : State) (v) : (s.setStatus v).res1 = s.res1 := rfl
@[simp] theorem State.setStatus_errCmd (s : State) (v) : (s.setStatus v).errCmd = s.errCmd := rfl
@[simp] theorem State.setStatus_fillColor (s : State) (v) : (s.setStatus v).fillColor = s.fillColor := rfl
@[simp] theorem State.setStatus_strokeColor (s : State) (v) : (s.setStatus v).strokeColor = s.strokeColor := rfl
@[simp] theorem State.setStatus_surfW (s : State) (v) : (s.setStatus v).surfW = s.surfW := rfl
@[simp] theorem State.setStatus_surfH (s : State) (v) : (s.setStatus v).surfH = s.surfH := rfl
@[simp] theorem State.setStatus_bbox (s : State) (v) : (s.setStatus v).bbox = s.bbox := rfl
@[simp] theorem State.setStatus_edge (s : State) (v) : (s.setStatus v).edge = s.edge := rfl
@[simp] theorem State.setStatus_path (s : State) (v) : (s.setStatus v).path = s.path := rfl
@[simp] theorem State.setStatus_ramp (s : State) (v) : (s.setStatus v).ramp = s.ramp := rfl
@[simp] theorem State.setStatus_fb (s : State) (v) : (s.setStatus v).fb = s.fb := rfl
@[simp] theorem State.setStatus_env (s : State) (v) : (s.setStatus v).env = s.env := rfl

@[simp] theorem State.setArgs_cfg (s : State) (v) : (s.setArgs v).cfg = s.cfg := rfl
@[simp] theorem State.setArgs_status (s : State) (v) : (s.setArgs v).status = s.status := rfl
@[simp] theorem State.setArgs_args (s : State) (v) : (s.setArgs v).args = v := rfl
@[simp] theorem State.setArgs_res0 (s : State) (v) : (s.setArgs v).res0 = s.res0 := rfl
@[simp] theorem State.setArgs_res1 (s : State) (v) : (s.setArgs v).res1 = s.res1 := rfl
@[simp] theorem State.setArgs_errCmd (s : State) (v) : (s.setArgs v).errCmd = s.errCmd := rfl
@[simp] theorem State.setArgs_fillColor (s : State) (v) : (s.setArgs v).fillColor = s.fillColor := rfl
@[simp] theorem State.setArgs_strokeColor (s : State) (v) : (s.setArgs v).strokeColor = s.strokeColor := rfl
@[simp] theorem State.setArgs_surfW (s : State) (v) : (s.setArgs v).surfW = s.surfW := rfl
@[simp] theorem State.setArgs_surfH (s : State) (v) : (s.setArgs v).surfH = s.surfH := rfl
@[simp] theorem State.setArgs_bbox (s : State) (v) : (s.setArgs v).bbox = s.bbox := rfl
@[simp] theorem State.setArgs_edge (s : State) (v) : (s.setArgs v).edge = s.edge := rfl
@[simp] theorem State.setArgs_path (s : State) (v) : (s.setArgs v).path = s.path := rfl
@[simp] theorem State.setArgs_ramp (s : State) (v) : (s.setArgs v).ramp = s.ramp := rfl
@[simp] theorem State.setArgs_fb (s : State) (v) : (s.setArgs v).fb = s.fb := rfl
@[simp] theorem State.setArgs_env (s : State) (v) : (s.setArgs v).env = s.env := rfl

@[simp] theorem State.setRes0_cfg (s : State) (v) : (s.setRes0 v).cfg = s.cfg := rfl
@[simp] theorem State.setRes0_status (s : State) (v) : (s.setRes0 v).status = s.status := rfl
@[simp] theorem State.setRes0_args (s : State) (v) : (s.setRes0 v).args = s.args := rfl
@[simp] theorem State.setRes0_res0 (s : State) (v) : (s.setRes0 v).res0 = v := rfl
@[simp] theorem State.setRes0_res1 (s : State) (v) : (s.setRes0 v).res1 = s.res1 := rfl
@[simp] theorem State.setRes0_errCmd (s : State) (v) : (s.setRes0 v).errCmd = s.errCmd := rfl
@[simp] theorem State.setRes0_fillColor (s : State) (v) : (s.setRes0 v).fillColor = s.fillColor := rfl
@[simp] theorem State.setRes0_strokeColor (s : State) (v) : (s.setRes0 v).strokeColor = s.strokeColor := rfl
@[simp] theorem State.setRes0_surfW (s : State) (v) : (s.setRes0 v).surfW = s.surfW := rfl
@[simp] theorem State.setRes0_surfH (s : State) (v) : (s.setRes0 v).surfH = s.surfH := rfl
@[simp] theorem State.setRes0_bbox (s : State) (v) : (s.setRes0 v).bbox = s.bbox := rfl
@[simp] theorem State.setRes0_edge (s : State) (v) : (s.setRes0 v).edge = s.edge := rfl
@[simp] theorem State.setRes0_path (s : State) (v) : (s.setRes0 v).path = s.path := rfl
@[simp] theorem State.setRes0_ramp (s : State) (v) : (s.setRes0 v).ramp = s.ramp := rfl
@[simp] theorem State.setRes0_fb (s : State) (v) : (s.setRes0 v).fb = s.fb := rfl
@[simp] theorem State.setRes0_env (s : State) (v) : (s.setRes0 v).env = s.env := rfl

@[simp] theorem State.setRes1_cfg (s : State) (v) : (s.setRes1 v).cfg = s.cfg := rfl
@[simp] theorem State.setRes1_status (s : State) (v) : (s.setRes1 v).status = s.status := rfl
@[simp] theorem State.setRes1_args (s : State) (v) : (s.setRes1 v).args = s.args := rfl
@[simp] theorem State.setRes1_res0 (s : State) (v) : (s.setRes1 v).res0 = s.res0 := rfl
@[simp] theorem State.setRes1_res1 (s : State) (v) : (s.setRes1 v).res1 = v := rfl
@[simp] theorem State.setRes1_errCmd (s : State) (v) : (s.setRes1 v).errCmd = s.errCmd := rfl
@[simp] theorem State.setRes1_fillColor (s : State) (v) : (s.setRes1 v).fillColor = s.fillColor := rfl
@[simp] theorem State.setRes1_strokeColor (s : State) (v) : (s.setRes1 v).strokeColor = s.strokeColor := rfl
@[simp] theorem State.setRes1_surfW (s : State) (v) : (s.setRes1 v).surfW = s.surfW := rfl
@[simp] theorem State.setRes1_surfH (s : State) (v) : (s.setRes1 v).surfH = s.surfH := rfl
@[simp] theorem State.setRes1_bbox (s : State) (v) : (s.setRes1 v).bbox = s.bbox := rfl
@[simp] theorem State.setRes1_edge (s : State) (v) : (s.setRes1 v).edge = s.edge := rfl
@[simp] theorem State.setRes1_path (s : State) (v) : (s.setRes1 v).path = s.path := rfl
@[simp] theorem State.setRes1_ramp (s : State) (v) : (s.setRes1 v).ramp = s.ramp := rfl
@[simp] theorem State.setRes1_fb (s : State) (v) : (s.setRes1 v).fb = s.fb := rfl
@[simp] theorem State.setRes1_env (s : State) (v) : (s.setRes1 v).env = s.env := rfl

@[simp] theorem State.setErrCmd_cfg (s : State) (v) : (s.setErrCmd v).cfg = s.cfg := rfl
@[simp] theorem State.setErrCmd_status (s : State) (v) : (s.setErrCmd v).status = s.status := rfl
@[simp] theorem State.setErrCmd_args (s : State) (v) : (s.setErrCmd v).args = s.args := rfl
@[simp] theorem State.setErrCmd_res0 (s : State) (v) : (s.setErrCmd v).res0 = s.res0 := rfl
@[simp] theorem State.setErrCmd_res1 (s : State) (v) : (s.setErrCmd v).res1 = s.res1 := rfl
@[simp] theorem State.setErrCmd_errCmd (s : State) (v) : (s.setErrCmd v).errCmd = v := rfl
@[simp] theorem State.setErrCmd_fillColor (s : State) (v) : (s.setErrCmd v).fillColor = s.fillColor := rfl
@[simp] theorem State.setErrCmd_strokeColor (s : State) (v) : (s.setErrCmd v).strokeColor = s.strokeColor := rfl
@[simp] theorem State.setErrCmd_surfW (s : State) (v) : (s.setErrCmd v).surfW = s.surfW := rfl
@[simp] theorem State.setErrCmd_surfH (s : State) (v) : (s.setErrCmd v).surfH = s.surfH := rfl
@[simp] theorem State.setErrCmd_bbox (s : State) (v) : (s.setErrCmd v).bbox = s.bbox := rfl
@[simp] theorem State.setErrCmd_edge (s : State) (v) : (s.setErrCmd v).edge = s.edge := rfl
@[simp] theorem State.setErrCmd_path (s : State) (v) : (s.setErrCmd v).path = s.path := rfl
@[simp] theorem State.setErrCmd_ramp (s : State) (v) : (s.setErrCmd v).ramp = s.ramp := rfl
@[simp] theorem State.setErrCmd_fb (s : State) (v) : (s.setErrCmd v).fb = s.fb := rfl
@[simp] theorem State.setErrCmd_env (s : State) (v) : (s.setErrCmd v).env = s.env := rfl

@[simp] theorem State.setFillColor_cfg (s : State) (v) : (s.setFillColor v).cfg = s.cfg := rfl
@[simp] theorem State.setFillColor_status (s : State) (v) : (s.setFillColor v).status = s.status := rfl
@[simp] theorem State.setFillColor_args (s : State) (v) : (s.setFillColor v).args = s.args := rfl
@[simp] theorem State.setFillColor_res0 (s : State) (v) : (s.setFillColor v).res0 = s.res0 := rfl
@[simp] theorem State.setFillColor_res1 (s : State) (v) : (s.setFillColor v).res1 = s.res1 := rfl
@[simp] theorem State.setFillColor_errCmd (s : State) (v) : (s.setFillColor v).errCmd = s.errCmd := rfl
@[simp] theorem State.setFillColor_fillColor (s : State) (v) : (s.setFillColor v).fillColor = v := rfl
@[simp] theorem State.setFillColor_strokeColor (s : State) (v) : (s.setFillColor v).strokeColor = s.strokeColor := rfl
@[simp] theorem State.setFillColor_surfW (s : State) (v) : (s.setFillColor v).surfW = s.surfW := rfl
@[simp] theorem State.setFillColor_surfH (s : State) (v) : (s.setFillColor v).surfH = s.surfH := rfl
@[simp] theorem State.setFillColor_bbox (s : State) (v) : (s.setFillColor v).bbox = s.bbox := rfl
@[simp] theorem State.setFillColor_edge (s : State) (v) : (s.setFillColor v).edge = s.edge := rfl
@[simp] theorem State.setFillColor_path (s : State) (v) : (s.setFillColor v).path = s.path := rfl
@[simp] theorem State.setFillColor_ramp (s : State) (v) : (s.setFillColor v).ramp = s.ramp := rfl
@[simp] theorem State.setFillColor_fb (s : State) (v) : (s.setFillColor v).fb = s.fb := rfl
@[simp] theorem State.setFillColor_env (s : State) (v) : (s.setFillColor v).env = s.env := rfl

@[simp] theorem State.setStrokeColor_cfg (s : State) (v) : (s.setStrokeColor v).cfg = s.cfg := rfl
@[simp] theorem State.setStrokeColor_status (s : State) (v) : (s.setStrokeColor v).status = s.status := rfl
@[simp] theorem State.setStrokeColor_args (s : State) (v) : (s.setStrokeColor v).args = s.args := rfl
@[simp] theorem State.setStrokeColor_res0 (s : State) (v) : (s.setStrokeColor v).res0 = s.res0 := rfl
@[simp] theorem State.setStrokeColor_res1 (s : State) (v) : (s.setStrokeColor v).res1 = s.res1 := rfl
@[simp] theorem State.setStrokeColor_errCmd (s : State) (v) : (s.setStrokeColor v).errCmd = s.errCmd := rfl
@[simp] theorem State.setStrokeColor_fillColor (s : State) (v) : (s.setStrokeColor v).fillColor = s.fillColor := rfl
@[simp] theorem State.setStrokeColor_strokeColor (s : State) (v) : (s.setStrokeColor v).strokeColor = v := rfl
@[simp] theorem State.setStrokeColor_surfW (s : State) (v) : (s.setStrokeColor v).surfW = s.surfW := rfl
@[simp] theorem State.setStrokeColor_surfH (s : State) (v) : (s.setStrokeColor v).surfH = s.surfH := rfl
@[simp] theorem State.setStrokeColor_bbox (s : State) (v) : (s.setStrokeColor v).bbox = s.bbox := rfl
@[simp] theorem State.setStrokeColor_edge (s : State) (v) : (s.setStrokeColor v).edge = s.edge := rfl
@[simp] theorem State.setStrokeColor_path (s : State) (v) : (s.setStrokeColor v).path = s.path := rfl
@[simp] theorem State.setStrokeColor_ramp (s : State) (v) : (s.setStrokeColor v).ramp = s.ramp := rfl
@[simp] theorem State.setStrokeColor_fb (s : State) (v) : (s.setStrokeColor v).fb = s.fb := rfl
@[simp] theorem State.setStrokeColor_env (s : State) (v) : (s.setStrokeColor v).env = s.env := rfl

@[simp] theorem State.setSurfW_cfg (s : State) (v) : (s.setSurfW v).cfg = s.cfg := rfl
@[simp] theorem State.setSurfW_status (s : State) (v) : (s.setSurfW v).status = s.status := rfl
@[simp] theorem State.setSurfW_args (s : State) (v) : (s.setSurfW v).args = s.args := rfl
@[simp] theorem State.setSurfW_res0 (s : State) (v) : (s.setSurfW v).res0 = s.res0 := rfl
@[simp] theorem State.setSurfW_res1 (s : State) (v) : (s.setSurfW v).res1 = s.res1 := rfl
@[simp] theorem State.setSurfW_errCmd (s : State) (v) : (s.setSurfW v).errCmd = s.errCmd := rfl
@[simp] theorem State.setSurfW_fillColor (s : State) (v) : (s.setSurfW v).fillColor = s.fillColor := rfl
@[simp] theorem State.setSurfW_strokeColor (s : State) (v) : (s.setSurfW v).strokeColor = s.strokeColor := rfl
@[simp] theorem State.setSurfW_surfW (s : State) (v) : (s.setSurfW v).surfW = v := rfl
@[simp] theorem State.setSurfW_surfH (s : State) (v) : (s.setSurfW v).surfH = s.surfH := rfl
@[simp] theorem State.setSurfW_bbox (s : State) (v) : (s.setSurfW v).bbox = s.bbox := rfl
@[simp] theorem State.setSurfW_edge (s : State) (v) : (s.setSurfW v).edge = s.edge := rfl
@[simp] theorem State.setSurfW_path (s : State) (v) : (s.setSurfW v).path = s.path := rfl
@[simp] theorem State.setSurfW_ramp (s : State) (v) : (s.setSurfW v).ramp = s.ramp := rfl
@[simp] theorem State.setSurfW_fb (s : State) (v) : (s.setSurfW v).fb = s.fb := rfl
@[simp] theorem State.setSurfW_env (s : State) (v) : (s.setSurfW v).env = s.env := rfl

@[simp] theorem State.setSurfH_cfg (s : State) (v) : (s.setSurfH v).cfg = s.cfg := rfl
@[simp] theorem State.setSurfH_status (s : State) (v) : (s.setSurfH v).status = s.status := rfl
@[simp] theorem State.setSurfH_args (s : State) (v) : (s.setSurfH v).args = s.args := rfl
@[simp] theorem State.setSurfH_res0 (s : State) (v) : (s.setSurfH v).res0 = s.res0 := rfl
@[simp] theorem State.setSurfH_res1 (s : State) (v) : (s.setSurfH v).res1 = s.res1 := rfl
@[simp] theorem State.setSurfH_errCmd (s : State) (v) : (s.setSurfH v).errCmd = s.errCmd := rfl
@[simp] theorem State.setSurfH_fillColor (s : State) (v) : (s.setSurfH v).fillColor = s.fillColor := rfl
@[simp] theorem State.setSurfH_strokeColor (s : State) (v) : (s.setSurfH v).strokeColor = s.strokeColor := rfl
@[simp] theorem State.setSurfH_surfW (s : State) (v) : (s.setSurfH v).surfW = s.surfW := rfl
@[simp] theorem State.setSurfH_surfH (s : State) (v) : (s.setSurfH v).surfH = v := rfl
@[simp] theorem State.setSurfH_bbox (s : State) (v) : (s.setSurfH v).bbox = s.bbox := rfl
@[simp] theorem State.setSurfH_edge (s : State) (v) : (s.setSurfH v).edge = s.edge := rfl
@[simp] theorem State.setSurfH_path (s : State) (v) : (s.setSurfH v).path = s.path := rfl
@[simp] theorem State.setSurfH_ramp (s : State) (v) : (s.setSurfH v).ramp = s.ramp := rfl
@[simp] theorem State.setSurfH_fb (s : State) (v) : (s.setSurfH v).fb = s.fb := rfl
@[simp] theorem State.setSurfH_env (s : State) (v) : (s.setSurfH v).env = s.env := rfl

@[simp] theorem State.setBBox_cfg (s : State) (v) : (s.setBBox v).cfg = s.cfg := rfl
@[simp] theorem State.setBBox_status (s : State) (v) : (s.setBBox v).status = s.status := rfl
@[simp] theorem State.setBBox_args (s : State) (v) : (s.setBBox v).args = s.args := rfl
@[simp] theorem State.setBBox_res0 (s : State) (v) : (s.setBBox v).res0 = s.res0 := rfl
@[simp] theorem State.setBBox_res1 (s : State) (v) : (s.setBBox v).res1 = s.res1 := rfl
@[simp] theorem State.setBBox_errCmd (s : State) (v) : (s.setBBox v).errCmd = s.errCmd := rfl
@[simp] theorem State.setBBox_fillColor (s : State) (v) : (s.setBBox v).fillColor = s.fillColor := rfl
@[simp] theorem State.setBBox_strokeColor (s : State) (v) : (s.setBBox v).strokeColor = s.strokeColor := rfl
@[simp] theorem State.setBBox_surfW (s : State) (v) : (s.setBBox v).surfW = s.surfW := rfl
@[simp] theorem State.setBBox_surfH (s : State) (v) : (s.setBBox v).surfH = s.surfH := rfl
@[simp] theorem State.setBBox_bbox (s : State) (v) : (s.setBBox v).bbox = v := rfl
@[simp] theorem State.setBBox_edge (s : State) (v) : (s.setBBox v).edge = s.edge := rfl
@[simp] theorem State.setBBox_path (s : State) (v) : (s.setBBox v).path = s.path := rfl
@[simp] theorem State.setBBox_ramp (s : State) (v) : (s.setBBox v).ramp = s.ramp := rfl
@[simp] theorem State.setBBox_fb (s : State) (v) : (s.setBBox v).fb = s.fb := rfl
@[simp] theorem State.setBBox_env (s : State) (v) : (s.setBBox v).env = s.env := rfl

@[simp] theorem State.setEdge_cfg (s : State) (v) : (s.setEdge v).cfg = s.cfg := rfl
@[simp] theorem State.setEdge_status (s : State) (v) : (s.setEdge v).status = s.status := rfl
@[simp] theorem State.setEdge_args (s : State) (v) : (s.setEdge v).args = s.args := rfl
@[simp] theorem State.setEdge_res0 (s : State) (v) : (s.setEdge v).res0 = s.res0 := rfl
@[simp] theorem State.setEdge_res1 (s : State) (v) : (s.setEdge v).res1 = s.res1 := rfl
@[simp] theorem State.setEdge_errCmd (s : State) (v) : (s.setEdge v).errCmd = s.errCmd := rfl
@[simp] theorem State.setEdge_fillColor (s : State) (v) : (s.setEdge v).fillColor = s.fillColor := rfl
@[simp] theorem State.setEdge_strokeColor (s : State) (v) : (s.setEdge v).strokeColor = s.strokeColor := rfl
@[simp] theorem State.setEdge_surfW (s : State) (v) : (s.setEdge v).surfW = s.surfW := rfl
@[simp] theorem State.setEdge_surfH (s : State) (v) : (s.setEdge v).surfH = s.surfH := rfl
@[simp] theorem State.setEdge_bbox (s : State) (v) : (s.setEdge v).bbox = s.bbox := rfl
@[simp] theorem State.setEdge_edge (s : State) (v) : (s.setEdge v).edge = v := rfl
@[simp] theorem State.setEdge_path (s : State) (v) : (s.setEdge v).path = s.path := rfl
@[simp] theorem State.setEdge_ramp (s : State) (v) : (s.setEdge v).ramp = s.ramp := rfl
@[simp] theorem State.setEdge_fb (s : State) (v) : (s.setEdge v).fb = s.fb := rfl
@[simp] theorem State.setEdge_env (s : State) (v) : (s.setEdge v).env = s.env := rfl

@[simp] theorem State.setPath_cfg (s : State) (v) : (s.setPath v).cfg = s.cfg := rfl
@[simp] theorem State.setPath_status (s : State) (v) : (s.setPath v).status = s.status := rfl
@[simp] theorem State.setPath_args (s : State) (v) : (s.setPath v).args = s.args := rfl
@[simp] theorem State.setPath_res0 (s : State) (v) : (s.setPath v).res0 = s.res0 := rfl
@[simp] theorem State.setPath_res1 (s : State) (v) : (s.setPath v).res1 = s.res1 := rfl
@[simp] theorem State.setPath_errCmd (s : State) (v) : (s.setPath v).errCmd = s.errCmd := rfl
@[simp] theorem State.setPath_fillColor (s : State) (v) : (s.setPath v).fillColor = s.fillColor := rfl
@[simp] theorem State.setPath_strokeColor (s : State) (v) : (s.setPath v).strokeColor = s.strokeColor := rfl
@[simp] theorem State.setPath_surfW (s : State) (v) : (s.setPath v).surfW = s.surfW := rfl
@[simp] theorem State.setPath_surfH (s : State) (v) : (s.setPath v).surfH = s.surfH := rfl
@[simp] theorem State.setPath_bbox (s : State) (v) : (s.setPath v).bbox = s.bbox := rfl
@[simp] theorem State.setPath_edge (s : State) (v) : (s.setPath v).edge = s.edge := rfl
@[simp] theorem State.setPath_path (s : State) (v) : (s.setPath v).path = v := rfl
@[simp] theorem State.setPath_ramp (s : State) (v) : (s.setPath v).ramp = s.ramp := rfl
@[simp] theorem State.setPath_fb (s : State) (v) : (s.setPath v).fb = s.fb := rfl
@[simp] theorem State.setPath_env (s : State) (v) : (s.setPath v).env = s.env := rfl

@[simp] theorem State.setRamp_cfg (s : State) (v) : (s.setRamp v).cfg = s.cfg := rfl
@[simp] theorem State.setRamp_status (s : State) (v) : (s.setRamp v).status = s.status := rfl
@[simp] theorem State.setRamp_args (s : State) (v) : (s.setRamp v).args = s.args := rfl
@[simp] theorem State.setRamp_res0 (s : State) (v) : (s.setRamp v).res0 = s.res0 := rfl
@[simp] theorem State.setRamp_res1 (s : State) (v) : (s.setRamp v).res1 = s.res1 := rfl
@[simp] theorem State.setRamp_errCmd (s : State) (v) : (s.setRamp v).errCmd = s.errCmd := rfl
@[simp] theorem State.setRamp_fillColor (s : State) (v) : (s.setRamp v).fillColor = s.fillColor := rfl
@[simp] theorem State.setRamp_strokeColor (s : State) (v) : (s.setRamp v).strokeColor = s.strokeColor := rfl
@[simp] theorem State.setRamp_surfW (s : State) (v) : (s.setRamp v).surfW = s.surfW := rfl
@[simp] theorem State.setRamp_surfH (s : State) (v) : (s.setRamp v).surfH = s.surfH := rfl
@[simp] theorem State.setRamp_bbox (s : State) (v) : (s.setRamp v).bbox = s.bbox := rfl
@[simp] theorem State.setRamp_edge (s : State) (v) : (s.setRamp v).edge = s.edge := rfl
@[simp] theorem State.setRamp_path (s : State) (v) : (s.setRamp v).path = s.path := rfl
@[simp] theorem State.setRamp_ramp (s : State) (v) : (s.setRamp v).ramp = v := rfl
@[simp] theorem State.setRamp_fb (s : State) (v) : (s.setRamp v).fb = s.fb := rfl
@[simp] theorem State.setRamp_env (s : State) (v) : (s.setRamp v).env = s.env := rfl

@[simp] theorem State.setFb_cfg (s : State) (v) : (s.setFb v).cfg = s.cfg := rfl
@[simp] theorem State.setFb_status (s : State) (v) : (s.setFb v).status = s.status := rfl
@[simp] theorem State.setFb_args (s : State) (v) : (s.setFb v).args = s.args := rfl
@[simp] theorem State.setFb_res0 (s : State) (v) : (s.setFb v).res0 = s.res0 := rfl
@[simp] theorem State.setFb_res1 (s : State) (v) : (s.setFb v).res1 = s.res1 := rfl
@[simp] theorem State.setFb_errCmd (s : State) (v) : (s.setFb v).errCmd = s.errCmd := rfl
@[simp] theorem State.setFb_fillColor (s : State) (v) : (s.setFb v).fillColor = s.fillColor := rfl
@[simp] theorem State.setFb_strokeColor (s : State) (v) : (s.setFb v).strokeColor = s.strokeColor := rfl
@[simp] theorem State.setFb_surfW (s : State) (v) : (s.setFb v).surfW = s.surfW := rfl
@[simp] theorem State.setFb_surfH (s : State) (v) : (s.setFb v).surfH = s.surfH := rfl
@[simp] theorem State.setFb_bbox (s : State) (v) : (s.setFb v).bbox = s.bbox := rfl
@[simp] theorem State.setFb_edge (s : State) (v) : (s.setFb v).edge = s.edge := rfl
@[simp] theorem State.setFb_path (s : State) (v) : (s.setFb v).path = s.path := rfl
@[simp] theorem State.setFb_ramp (s : State) (v) : (s.setFb v).ramp = s.ramp := rfl
@[simp] theorem State.setFb_fb (s : State) (v) : (s.setFb v).fb = v := rfl
@[simp] theorem State.setFb_env (s : State) (v) : (s.setFb v).env = s.env := rfl

@[simp] theorem State.setEnv_cfg (s : State) (v) : (s.setEnv v).cfg = s.cfg := rfl
@[simp] theorem State.setEnv_status (s : State) (v) : (s.setEnv v).status = s.status := rfl
@[simp] theorem State.setEnv_args (s : State) (v) : (s.setEnv v).args = s.args := rfl
@[simp] theorem State.setEnv_res0 (s : State) (v) : (s.setEnv v).res0 = s.res0 := rfl
@[simp] theorem State.setEnv_res1 (s : State) (v) : (s.setEnv v).res1 = s.res1 := rfl
@[simp] theorem State.setEnv_errCmd (s : State) (v) : (s.setEnv v).errCmd = s.errCmd := rfl
@[simp] theorem State.setEnv_fillColor (s : State) (v) : (s.setEnv v).fillColor = s.fillColor := rfl
@[simp] theorem State.setEnv_strokeColor (s : State) (v) : (s.setEnv v).strokeColor = s.strokeColor := rfl
@[simp] theorem State.setEnv_surfW (s : State) (v) : (s.setEnv v).surfW = s.surfW := rfl
@[simp] theorem State.setEnv_surfH (s : State) (v) : (s.setEnv v).surfH = s.surfH := rfl
@[simp] theorem State.setEnv_bbox (s : State) (v) : (s.setEnv v).bbox = s.bbox := rfl
@[simp] theorem State.setEnv_edge (s : State) (v) : (s.setEnv v).edge = s.edge := rfl
@[simp] theorem State.setEnv_path (s : State) (v) : (s.setEnv v).path = s.path := rfl
@[simp] theorem State.setEnv_ramp (s : State) (v) : (s.setEnv v).ramp = s.ramp := rfl
@[simp] theorem State.setEnv_fb (s : State) (v) : (s.setEnv v).fb = s.fb := rfl
@[simp] theorem State.setEnv_env (s : State) (v) : (s.setEnv v).env = v := rfl

@[simp] theorem State.setContext_cfg (s : State) (v) : (s.setContext v).cfg = s.cfg := rfl
@[simp] theorem State.setContext_status (s : State) (v) : (s.setContext v).status = { s.status with state := v } := rfl
@[simp] theorem State.setContext_args (s : State) (v) : (s.setContext v).args = s.args := rfl
@[simp] theorem State.setContext_res0 (s : State) (v) : (s.setContext v).res0 = s.res0 := rfl
@[simp] theorem State.setContext_res1 (s : State) (v) : (s.setContext v).res1 = s.res1 := rfl
@[simp] theorem State.setContext_errCmd (s : State) (v) : (s.setContext v).errCmd = s.errCmd := rfl
@[simp] theorem State.setContext_fillColor (s : State) (v) : (s.setContext v).fillColor = s.fillColor := rfl
@[simp] theorem State.setContext_strokeColor (s : State) (v) : (s.setContext v).strokeColor = s.strokeColor := rfl
@[simp] theorem State.setContext_surfW (s : State) (v) : (s.setContext v).surfW = s.surfW := rfl
@[simp] theorem State.setContext_surfH (s : State) (v) : (s.setContext v).surfH = s.surfH := rfl
@[simp] theorem State.setContext_bbox (s : State) (v) : (s.setContext v).bbox = s.bbox := rfl
@[simp] theorem State.setContext_edge (s : State) (v) : (s.setContext v).edge = s.edge := rfl
@[simp] theorem State.setContext_path (s : State) (v) : (s.setContext v).path = s.path := rfl
@[simp] theorem State.setContext_ramp (s : State) (v) : (s.setContext v).ramp = s.ramp := rfl
@[simp] theorem State.setContext_fb (s : State) (v) : (s.setContext v).fb = s.fb := rfl
@[simp] theorem State.setContext_env (s : State) (v) : (s.setContext v).env = s.env := rfl

@[simp] theorem State.setPathOpen_cfg (s : State) (v) : (s.setPathOpen v).cfg = s.cfg := rfl
@[simp] theorem State.setPathOpen_status (s : State) (v) : (s.setPathOpen v).status = { s.status with pathOpen := v } := rfl
@[simp] theorem State.setPathOpen_args (s : State) (v) : (s.setPathOpen v).args = s.args := rfl
@[simp] theorem State.setPathOpen_res0 (s : State) (v) : (s.setPathOpen v).res0 = s.res0 := rfl
@[simp] theorem State.setPathOpen_res1 (s : State) (v) : (s.setPathOpen v).res1 = s.res1 := rfl
@[simp] theorem State.setPathOpen_errCmd (s : State) (v) : (s.setPathOpen v).errCmd = s.errCmd := rfl
@[simp] theorem State.setPathOpen_fillColor (s : State) (v) : (s.setPathOpen v).fillColor = s.fillColor := rfl
@[simp] theorem State.setPathOpen_strokeColor (s : State) (v) : (s.setPathOpen v).strokeColor = s.strokeColor := rfl
@[simp] theorem State.setPathOpen_surfW (s : State) (v) : (s.setPathOpen v).surfW = s.surfW := rfl
@[simp] theorem State.setPathOpen_surfH (s : State) (v) : (s.setPathOpen v).surfH = s.surfH := rfl
@[simp] theorem State.setPathOpen_bbox (s : State) (v) : (s.setPathOpen v).bbox = s.bbox := rfl
@[simp] theorem State.setPathOpen_edge (s : State) (v) : (s.setPathOpen v).edge = s.edge := rfl
@[simp] theorem State.setPathOpen_path (s : State) (v) : (s.setPathOpen v).path = s.path := rfl
@[simp] theorem State.setPathOpen_ramp (s : State) (v) : (s.setPathOpen v).ramp = s.ramp := rfl
@[simp] theorem State.setPathOpen_fb (s : State) (v) : (s.setPathOpen v).fb = s.fb := rfl
@[simp] theorem State.setPathOpen_env (s : State) (v) : (s.setPathOpen v).env = s.env := rfl

@[simp] theorem State.setAa_cfg (s : State) (v) : (s.setAa v).cfg = s.cfg := rfl
@[simp] theorem State.setAa_status (s : State) (v) : (s.setAa v).status = { s.status with aa := v } := rfl
@[simp] theorem State.setAa_args (s : State) (v) : (s.setAa v).args = s.args := rfl
@[simp] theorem State.setAa_res0 (s : State) (v) : (s.setAa v).res0 = s.res0 := rfl
@[simp] theorem State.setAa_res1 (s : State) (v) : (s.setAa v).res1 = s.res1 := rfl
@[simp] theorem State.setAa_errCmd (s : State) (v) : (s.setAa v).errCmd = s.errCmd := rfl
@[simp] theorem State.setAa_fillColor (s : State) (v) : (s.setAa v).fillColor = s.fillColor := rfl
@[simp] theorem State.setAa_strokeColor (s : State) (v) : (s.setAa v).strokeColor = s.strokeColor := rfl
@[simp] theorem State.setAa_surfW (s : State) (v) : (s.setAa v).surfW = s.surfW := rfl
@[simp] theorem State.setAa_surfH (s : State) (v) : (s.setAa v).surfH = s.surfH := rfl
@[simp] theorem State.setAa_bbox (s : State) (v) : (s.setAa v).bbox = s.bbox := rfl
@[simp] theorem State.setAa_edge (s : State) (v) : (s.setAa v).edge = s.edge := rfl
@[simp] theorem State.setAa_path (s : State) (v) : (s.setAa v).path = s.path := rfl
@[simp] theorem State.setAa_ramp (s : State) (v) : (s.setAa v).ramp = s.ramp := rfl
@[simp] theorem State.setAa_fb (s : State) (v) : (s.setAa v).fb = s.fb := rfl
@[simp] theorem State.setAa_env (s : State) (v) : (s.setAa v).env = s.env := rfl

@[simp] theorem State.setRampDirty_cfg (s : State) (v) : (s.setRampDirty v).cfg = s.cfg := rfl
@[simp] theorem State.setRampDirty_status (s : State) (v) : (s.setRampDirty v).status = { s.status with rampDirty := v } := rfl
@[simp] theorem State.setRampDirty_args (s : State) (v) : (s.setRampDirty v).args = s.args := rfl
@[simp] theorem State.setRampDirty_res0 (s : State) (v) : (s.setRampDirty v).res0 = s.res0 := rfl
@[simp] theorem State.setRampDirty_res1 (s : State) (v) : (s.setRampDirty v).res1 = s.res1 := rfl
@[simp] theorem State.setRampDirty_errCmd (s : State) (v) : (s.setRampDirty v).errCmd = s.errCmd := rfl
@[simp] theorem State.setRampDirty_fillColor (s : State) (v) : (s.setRampDirty v).fillColor = s.fillColor := rfl
@[simp] theorem State.setRampDirty_strokeColor (s : State) (v) : (s.setRampDirty v).strokeColor = s.strokeColor := rfl
@[simp] theorem State.setRampDirty_surfW (s : State) (v) : (s.setRampDirty v).surfW = s.surfW := rfl
@[simp] theorem State.setRampDirty_surfH (s : State) (v) : (s.setRampDirty v).surfH = s.surfH := rfl
@[simp] theorem State.setRampDirty_bbox (s : State) (v) : (s.setRampDirty v).bbox = s.bbox := rfl
@[simp] theorem State.setRampDirty_edge (s : State) (v) : (s.setRampDirty v).edge = s.edge := rfl
@[simp] theorem State.setRampDirty_path (s : State) (v) : (s.setRampDirty v).path = s.path := rfl
@[simp] theorem State.setRampDirty_ramp (s : State) (v) : (s.setRampDirty v).ramp = s.ramp := rfl
@[simp] theorem State.setRampDirty_fb (s : State) (v) : (s.setRampDirty v).fb = s.fb := rfl
@[simp] theorem State.setRampDirty_env (s : State) (v) : (s.setRampDirty v).env = s.env := rfl

@[simp] theorem State.noteClip_cfg (s : State) (v) : (s.noteClip v).cfg = s.cfg := rfl
@[simp] theorem State.noteClip_status (s : State) (v) : (s.noteClip v).status = { s.status with clip := (s.status.clip || v) } := rfl
@[simp] theorem State.noteClip_args (s : State) (v) : (s.noteClip v).args = s.args := rfl
@[simp] theorem State.noteClip_res0 (s : State) (v) : (s.noteClip v).res0 = s.res0 := rfl
@[simp] theorem State.noteClip_res1 (s : State) (v) : (s.noteClip v).res1 = s.res1 := rfl
@[simp] theorem State.noteClip_errCmd (s : State) (v) : (s.noteClip v).errCmd = s.errCmd := rfl
@[simp] theorem State.noteClip_fillColor (s : State) (v) : (s.noteClip v).fillColor = s.fillColor := rfl
@[simp] theorem State.noteClip_strokeColor (s : State) (v) : (s.noteClip v).strokeColor = s.strokeColor := rfl
@[simp] theorem State.noteClip_surfW (s : State) (v) : (s.noteClip v).surfW = s.surfW := rfl
@[simp] theorem State.noteClip_surfH (s : State) (v) : (s.noteClip v).surfH = s.surfH := rfl
@[simp] theorem State.noteClip_bbox (s : State) (v) : (s.noteClip v).bbox = s.bbox := rfl
@[simp] theorem State.noteClip_edge (s : State) (v) : (s.noteClip v).edge = s.edge := rfl
@[simp] theorem State.noteClip_path (s : State) (v) : (s.noteClip v).path = s.path := rfl
@[simp] theorem State.noteClip_ramp (s : State) (v) : (s.noteClip v).ramp = s.ramp := rfl
@[simp] theorem State.noteClip_fb (s : State) (v) : (s.noteClip v).fb = s.fb := rfl
@[simp] theorem State.noteClip_env (s : State) (v) : (s.noteClip v).env = s.env := rfl

end Sys2Proof.Machine
end

