-- ==== Sys2Proof/Laws/Bus.lean ====
section
/-! SUPPORT. The bus: which accesses have a window offset, what register lies there, and what a step does with the
next thing the host does. -/

namespace Sys2Proof.Machine

/-- An aligned 32-bit access inside the window has its offset (R62, R63). -/
theorem windowOffset_inside (c : Config) (off : Nat) (h : off < 0x100) (h4 : off % 4 = 0) :
    windowOffset c 32 (c.base + off) = .ok off := by
  have h1 : ¬ (c.base + off < c.base ∨ c.base + 0x100 ≤ c.base + off) := by omega
  simp only [windowOffset, ne_eq, not_true_eq_false, if_false, h1, Nat.add_sub_cancel_left, h4]

/-- The register map has the registers at their own offsets (R21). -/
theorem regAt_regOffset (r : RegName) : regAt (regOffset r) = some r := by
  cases r with
  | ramp i => fin_cases i <;> rfl
  | _ => rfl

/-- No register lies at a reserved offset (R39). -/
theorem regAt_reserved (off : Nat) (h : 0xA4 ≤ off) : regAt off = none := by
  unfold regAt
  split <;> first | omega | rfl

/-- A step serves the next thing the host does (R76). -/
theorem step_pending (s : State) (op : HostOp) (rest : List HostOp) (h : s.env.pending = op :: rest) :
    step s = serveOp op rest s := by
  simp only [step, serve, h]

/-- With nothing to serve the block keeps its state (R255; the model's choice of notes/assumptions/4.md). -/
theorem step_idle (s : State) (h : s.env.pending = []) : step s = .next s := by
  simp only [step, serve, h]

/-- A write of a command's word runs the command (R37). -/
theorem runCommand_ok (w : Word) (i : Instr) (s : State) (h : decode w = .ok i) : runCommand w s = exec i s := by
  simp only [runCommand, h]

/-- A word that does not decode raises ILLEGAL (R91). -/
theorem runCommand_error (w : Word) (e : DecodeError) (s : State) (h : decode w = .error e) :
    runCommand w s = .next (raiseFault .illegal w s) := by
  simp only [runCommand, h]

end Sys2Proof.Machine
end

