-- ==== Sys2Proof/Laws/Operands.lean ====
section
/-! SUPPORT. The readings and stores of R11: the range of a reading, and that storing a value in range loses nothing. -/

namespace Sys2Proof.Machine

theorem s32_range (w : Word) : -2147483648 ≤ s32 w ∧ s32 w ≤ 2147483647 := by
  have h1 := BitVec.le_toInt w
  have h2 := BitVec.toInt_lt (x := w)
  simp only [s32]
  norm_num at h1 h2
  omega

theorem u32_lt (w : Word) : u32 w < 2 ^ 32 := w.isLt

@[simp] theorem w32_s32 (w : Word) : w32 (s32 w) = w := BitVec.ofInt_toInt

/-- Storing a value in the range of s32 loses nothing (R11). -/
theorem s32_w32 {v : Int} (h1 : -2147483648 ≤ v) (h2 : v ≤ 2147483647) : s32 (w32 v) = v := by
  simp only [s32, w32, BitVec.toInt_ofInt]
  exact Int.bmod_eq_of_le (by norm_num; omega) (by norm_num; omega)

theorem coordOk_iff (v : Int) : coordOk v = true ↔ -32768 ≤ v ∧ v ≤ 32767 := by
  simp [coordOk]

theorem coords2Ok_iff (s : State) : s.coords2Ok = true ↔ coordOk s.sArg0 = true ∧ coordOk s.sArg1 = true := by
  simp [State.coords2Ok]

theorem coords4Ok_iff (s : State) :
    s.coords4Ok = true ↔
      coordOk s.sArg0 = true ∧ coordOk s.sArg1 = true ∧ coordOk s.sArg2 = true ∧ coordOk s.sArg3 = true := by
  simp [State.coords4Ok, and_assoc]

/-- A word that reads 0 is 0. -/
theorem s32_eq_zero (w : Word) : s32 w = 0 ↔ w = 0 := by
  constructor
  · intro h
    rw [← w32_s32 w, h]
    rfl
  · rintro rfl
    rfl

end Sys2Proof.Machine
end

