-- ==== Sys2Proof/Laws/Edge.lean ====
section
/-! SUPPORT. The edge stepper's small laws: what one step and a walk do, in the order in which proofs about edges use
them. -/

namespace Sys2Proof.Machine

/-- An exhausted edge does not change (R149). -/
theorem edgeStep_exhausted (e : EdgeRegs) (h : s32 e.h = 0) : edgeStep e = (e, 0) := by simp [edgeStep, h]

/-- A step keeps the three registers of the slope (R144). -/
theorem edgeStep_slope (e : EdgeRegs) :
    (edgeStep e).1.step = e.step ∧ (edgeStep e).1.num = e.num ∧ (edgeStep e).1.den = e.den := by
  unfold edgeStep
  split <;> exact ⟨rfl, rfl, rfl⟩

/-- A step of an edge that has rows left (R144). -/
theorem edgeStep_rows (e : EdgeRegs) (h : s32 e.h ≠ 0) :
    edgeStep e =
      (if s32 e.err + s32 e.num ≥ s32 e.den then
        ({ e with
            x := w32 (s32 e.x + s32 e.step + 1), err := w32 (s32 e.err + s32 e.num - s32 e.den),
            y := w32 (s32 e.y + 1), h := w32 (s32 e.h - 1) }, s32 e.h - 1)
      else
        ({ e with
            x := w32 (s32 e.x + s32 e.step), err := w32 (s32 e.err + s32 e.num),
            y := w32 (s32 e.y + 1), h := w32 (s32 e.h - 1) }, s32 e.h - 1)) := by
  unfold edgeStep
  rw [if_neg h]
  split <;> rename_i hc <;> simp [hc]

/-- The last row of a walk, taken off at its end. -/
theorem walkEnd_succ (n : Nat) (e : EdgeRegs) : walkEnd (n + 1) e = (edgeStep (walkEnd n e)).1 := by
  induction n generalizing e with
  | zero => rfl
  | succ n ih => rw [walkEnd, ih]; rfl

/-- A walk of an exhausted edge changes nothing. -/
theorem walkEnd_exhausted (n : Nat) (e : EdgeRegs) (h : s32 e.h = 0) : walkEnd n e = e := by
  induction n with
  | zero => rfl
  | succ n ih => rw [walkEnd, edgeStep_exhausted e h]; exact ih

/-- The j-th point a walk visits is that of the edge after j rows (R146). -/
theorem walkVisits_eq (n : Nat) (e : EdgeRegs) :
    walkVisits n e = (List.range n).map fun j => (s32 (walkEnd j e).x, s32 (walkEnd j e).y) := by
  induction n generalizing e with
  | zero => rfl
  | succ n ih => rw [walkVisits, ih, List.range_succ_eq_map]; simp [Function.comp_def, walkEnd]

/-- A walk visits one point for each row it takes (R146). -/
theorem walkVisits_length (n : Nat) (e : EdgeRegs) : (walkVisits n e).length = n := by
  rw [walkVisits_eq]; simp

/-- EdgeInit of points given from the bottom up loads the same edge as from the top down (R141). -/
theorem edgeInit_swap (x0 y0 x1 y1 : Int) (k : Nat) (h : y0 < y1) :
    edgeInit x1 y1 x0 y0 k = edgeInit x0 y0 x1 y1 k := by
  unfold edgeInit
  rw [if_pos h, if_neg (by omega)]

end Sys2Proof.Machine
end

