-- ==== Sys2Proof/Laws/Memory.lean ====
section
/-! SUPPORT. The laws of the flag buffer's list of entries: the canonical form, what a read gives after a write, that
every operation keeps the form, and that equal reads mean equal buffers. -/

namespace Sys2Proof.Machine

/-- The canonical form in terms of the library's order on lists. -/
theorem Memory.wf_iff (m : Memory) :
    Memory.wf m = true ↔ m.Pairwise (fun c d => c.1 < d.1) ∧ ∀ c ∈ m, c.2 ≠ Memory.default := by
  induction m with
  | nil => simp [Memory.wf]
  | cons c m ih =>
    cases m with
    | nil => simp [Memory.wf]
    | cons d m =>
      simp only [Memory.wf, Bool.and_eq_true, decide_eq_true_eq, ih, List.pairwise_cons, List.mem_cons,
        forall_eq_or_imp]
      constructor
      · rintro ⟨⟨hlt, hne⟩, ⟨hd, hm⟩, hdne, hmne⟩
        exact ⟨⟨⟨hlt, fun e he => lt_trans hlt (hd e he)⟩, hd, hm⟩, hne, hdne, hmne⟩
      · rintro ⟨⟨⟨hlt, -⟩, hd, hm⟩, hne, hdne, hmne⟩
        exact ⟨⟨hlt, hne⟩, ⟨hd, hm⟩, hdne, hmne⟩

@[simp] theorem Memory.wf_nil : Memory.wf [] = true := rfl

@[simp] theorem Memory.read_nil (a : Nat) : Memory.read [] a = 0 := rfl

/-- A key below every listed one reads as an unlisted entry. -/
theorem Memory.read_of_lt (m : Memory) (a : Nat) (h : ∀ c ∈ m, a < c.1) : Memory.read m a = 0 := by
  induction m with
  | nil => rfl
  | cons c m ih =>
    have hc := h c (by simp)
    simp only [Memory.read, if_neg (by omega : ¬ c.1 = a)]
    exact ih fun d hd => h d (by simp [hd])

/-- A listed entry reads as its value. -/
theorem Memory.read_of_mem {m : Memory} (h : Memory.wf m = true) {c : Host.Cell} (hc : c ∈ m) :
    Memory.read m c.1 = c.2 := by
  obtain ⟨hs, -⟩ := (Memory.wf_iff m).1 h
  clear h
  induction m with
  | nil => cases hc
  | cons d m ih =>
    rw [List.pairwise_cons] at hs
    rcases List.mem_cons.1 hc with rfl | hm
    · simp [Memory.read]
    · have := hs.1 c hm
      simp only [Memory.read, if_neg (by omega : ¬ d.1 = c.1)]
      exact ih hm hs.2

/-- Every listed entry after a write was listed before or is the one written. -/
theorem Memory.mem_write (m : Memory) (a : Nat) (v : Byte) (c : Host.Cell) (h : c ∈ Memory.write m a v) :
    c ∈ m ∨ (c = (a, v) ∧ v ≠ 0) := by
  have hcons : ∀ m' : Memory, c ∈ Memory.cons a v m' → c ∈ m' ∨ (c = (a, v) ∧ v ≠ 0) := by
    intro m' hm
    unfold Memory.cons at hm
    split at hm
    · exact .inl hm
    · rename_i hv
      rcases List.mem_cons.1 hm with rfl | hm
      · exact .inr ⟨rfl, hv⟩
      · exact .inl hm
  induction m with
  | nil => exact hcons [] h
  | cons d m ih =>
    simp only [Memory.write] at h
    split at h
    · exact hcons _ h
    split at h
    · rcases hcons _ h with hm | hm
      · exact .inl (List.mem_cons_of_mem _ hm)
      · exact .inr hm
    · rcases List.mem_cons.1 h with rfl | hm
      · exact .inl (by simp)
      · rcases ih hm with hm | hm
        · exact .inl (List.mem_cons_of_mem _ hm)
        · exact .inr hm

/-- Every write keeps the canonical form. -/
theorem Memory.write_wf (m : Memory) (a : Nat) (v : Byte) (h : Memory.wf m = true) :
    Memory.wf (Memory.write m a v) = true := by
  have hcons : ∀ m' : Memory, m'.Pairwise (fun c d => c.1 < d.1) → (∀ c ∈ m', a < c.1) →
      (Memory.cons a v m').Pairwise (fun c d => c.1 < d.1) := by
    intro m' hs hlt
    unfold Memory.cons
    split
    · exact hs
    · exact List.pairwise_cons.2 ⟨hlt, hs⟩
  rw [Memory.wf_iff] at h ⊢
  obtain ⟨hs, hne⟩ := h
  refine ⟨?_, fun c hc => ?_⟩
  · clear hne
    induction m with
    | nil => exact hcons [] .nil (by simp)
    | cons d m ih =>
      rw [List.pairwise_cons] at hs
      simp only [Memory.write]
      split
      · rename_i hlt
        refine hcons _ (List.pairwise_cons.2 hs) ?_
        intro c hc
        rcases List.mem_cons.1 hc with rfl | hc
        · exact hlt
        · exact lt_trans hlt (hs.1 c hc)
      split
      · rename_i heq
        exact hcons _ hs.2 (fun c hc => heq ▸ hs.1 c hc)
      · rename_i h1 h2
        refine List.pairwise_cons.2 ⟨fun c hc => ?_, ih hs.2⟩
        rcases Memory.mem_write m a v c hc with hm | ⟨rfl, -⟩
        · exact hs.1 c hm
        · show d.1 < a
          omega
  · rcases Memory.mem_write m a v c hc with hm | ⟨rfl, hv⟩
    · exact hne c hm
    · exact hv

/-- A read after a write gives the value written, and every other entry reads as before. -/
theorem Memory.read_write (m : Memory) (a b : Nat) (v : Byte) (h : Memory.wf m = true) :
    Memory.read (Memory.write m a v) b = if b = a then v else Memory.read m b := by
  have hcons : ∀ m' : Memory, (∀ c ∈ m', a < c.1) →
      Memory.read (Memory.cons a v m') b = if b = a then v else Memory.read m' b := by
    intro m' hlt
    unfold Memory.cons
    split
    · rename_i hv
      split
      · rename_i hb
        rw [hb, Memory.read_of_lt m' a hlt, hv]
        rfl
      · rfl
    · simp [Memory.read, eq_comm]
  obtain ⟨hs, -⟩ := (Memory.wf_iff m).1 h
  clear h
  induction m with
  | nil => exact hcons [] (by simp)
  | cons d m ih =>
    rw [List.pairwise_cons] at hs
    simp only [Memory.write]
    split
    · rename_i hlt
      refine hcons _ ?_
      intro c hc
      rcases List.mem_cons.1 hc with rfl | hc
      · exact hlt
      · exact lt_trans hlt (hs.1 c hc)
    split
    · rename_i heq
      rw [hcons m (fun c hc => heq ▸ hs.1 c hc)]
      by_cases hb : b = a
      · simp [hb]
      · simp [hb, Memory.read, if_neg (by omega : ¬ d.1 = b)]
    · rename_i h1 h2
      simp only [Memory.read, ih hs.2]
      by_cases hb : b = a
      · subst hb
        simp [if_neg (by omega : ¬ d.1 = b)]
      · simp [hb]

/-- Two buffers in canonical form with the same reads are the same list. -/
theorem Memory.ext_read {m n : Memory} (hm : Memory.wf m = true) (hn : Memory.wf n = true)
    (h : ∀ a, Memory.read m a = Memory.read n a) : m = n := by
  rw [Memory.wf_iff] at hm hn
  obtain ⟨hm, hm0⟩ := hm
  obtain ⟨hn, hn0⟩ := hn
  induction m generalizing n with
  | nil =>
    cases n with
    | nil => rfl
    | cons d n =>
      have := h d.1
      simp [Memory.read] at this
      exact absurd this.symm (hn0 d (by simp))
  | cons c m ih =>
    rw [List.pairwise_cons] at hm
    cases n with
    | nil =>
      have := h c.1
      simp [Memory.read] at this
      exact absurd this (hm0 c (by simp))
    | cons d n =>
      rw [List.pairwise_cons] at hn
      have hkey : c.1 = d.1 := by
        rcases lt_trichotomy c.1 d.1 with hlt | heq | hlt
        · have h1 := h c.1
          rw [Memory.read_of_lt (d :: n) c.1 (by
            intro e he
            rcases List.mem_cons.1 he with rfl | he
            · exact hlt
            · exact lt_trans hlt (hn.1 e he))] at h1
          simp [Memory.read] at h1
          exact absurd h1 (hm0 c (by simp))
        · exact heq
        · have h1 := h d.1
          rw [Memory.read_of_lt (c :: m) d.1 (by
            intro e he
            rcases List.mem_cons.1 he with rfl | he
            · exact hlt
            · exact lt_trans hlt (hm.1 e he))] at h1
          simp [Memory.read] at h1
          exact absurd h1.symm (hn0 d (by simp))
      have hval : c.2 = d.2 := by
        have h1 := h c.1
        simpa [Memory.read, hkey] using h1
      have hcd : c = d := Prod.ext hkey hval
      subst hcd
      congr 1
      refine ih (fun a => ?_) hm.2 (fun e he => hm0 e (by simp [he])) hn.2 (fun e he => hn0 e (by simp [he]))
      by_cases ha : c.1 = a
      · rw [Memory.read_of_lt m a (fun e he => ha ▸ hm.1 e he), Memory.read_of_lt n a (fun e he => ha ▸ hn.1 e he)]
      · have h1 := h a
        simpa [Memory.read, ha] using h1

/-- A buffer in canonical form that reads 0 everywhere lists nothing. -/
theorem Memory.eq_nil_of_read {m : Memory} (hm : Memory.wf m = true) (h : ∀ a, Memory.read m a = 0) : m = [] :=
  Memory.ext_read hm rfl fun a => by rw [h a, Memory.read_nil]

/-- Entries in the window of 32-bit row and column numbers have distinct keys. -/
theorem fbKey_inj {r c r' c' : Nat} (hc : c < 2 ^ 32) (hc' : c' < 2 ^ 32) :
    fbKey r c = fbKey r' c' ↔ r = r' ∧ c = c' := by
  unfold fbKey
  omega

theorem fbKey_row (r c : Nat) (hc : c < 2 ^ 32) : fbKey r c / 2 ^ 32 = r := by
  unfold fbKey
  omega

theorem fbKey_col (r c : Nat) (hc : c < 2 ^ 32) : fbKey r c % 2 ^ 32 = c := by
  unfold fbKey
  omega

end Sys2Proof.Machine
end

