-- ==== Sys2Proof/Laws/Ops.lean ====
section
/-! SUPPORT. What each shared operation of Machine/ leaves in each field: recording and acknowledging a fault, the
bounding box, the surface port, the ramp, and the toggles of an edge. -/

namespace Sys2Proof.Machine

/-! `raiseFault` -/

@[simp] theorem raiseFault_cfg (c w s) : (raiseFault c w s).cfg = s.cfg := by unfold raiseFault; split <;> rfl
@[simp] theorem raiseFault_status (c w s) : (raiseFault c w s).status = if s.status.err then s.status else { s.status with err := true, errCode := c } := by unfold raiseFault; split <;> rfl
@[simp] theorem raiseFault_args (c w s) : (raiseFault c w s).args = s.args := by unfold raiseFault; split <;> rfl
@[simp] theorem raiseFault_res0 (c w s) : (raiseFault c w s).res0 = s.res0 := by unfold raiseFault; split <;> rfl
@[simp] theorem raiseFault_res1 (c w s) : (raiseFault c w s).res1 = s.res1 := by unfold raiseFault; split <;> rfl
@[simp] theorem raiseFault_errCmd (c w s) : (raiseFault c w s).errCmd = if s.status.err then s.errCmd else w := by unfold raiseFault; split <;> rfl
@[simp] theorem raiseFault_fillColor (c w s) : (raiseFault c w s).fillColor = s.fillColor := by unfold raiseFault; split <;> rfl
@[simp] theorem raiseFault_strokeColor (c w s) : (raiseFault c w s).strokeColor = s.strokeColor := by unfold raiseFault; split <;> rfl
@[simp] theorem raiseFault_surfW (c w s) : (raiseFault c w s).surfW = s.surfW := by unfold raiseFault; split <;> rfl
@[simp] theorem raiseFault_surfH (c w s) : (raiseFault c w s).surfH = s.surfH := by unfold raiseFault; split <;> rfl
@[simp] theorem raiseFault_bbox (c w s) : (raiseFault c w s).bbox = s.bbox := by unfold raiseFault; split <;> rfl
@[simp] theorem raiseFault_edge (c w s) : (raiseFault c w s).edge = s.edge := by unfold raiseFault; split <;> rfl
@[simp] theorem raiseFault_path (c w s) : (raiseFault c w s).path = s.path := by unfold raiseFault; split <;> rfl
@[simp] theorem raiseFault_ramp (c w s) : (raiseFault c w s).ramp = s.ramp := by unfold raiseFault; split <;> rfl
@[simp] theorem raiseFault_fb (c w s) : (raiseFault c w s).fb = s.fb := by unfold raiseFault; split <;> rfl
@[simp] theorem raiseFault_env (c w s) : (raiseFault c w s).env = s.env := by unfold raiseFault; split <;> rfl

/-! `clearFault` -/

@[simp] theorem clearFault_cfg (s) : (clearFault s).cfg = s.cfg := rfl
@[simp] theorem clearFault_status (s) : (clearFault s).status = { s.status with err := false, errCode := .none, clip := false } := rfl
@[simp] theorem clearFault_args (s) : (clearFault s).args = s.args := rfl
@[simp] theorem clearFault_res0 (s) : (clearFault s).res0 = s.res0 := rfl
@[simp] theorem clearFault_res1 (s) : (clearFault s).res1 = s.res1 := rfl
@[simp] theorem clearFault_errCmd (s) : (clearFault s).errCmd = 0 := rfl
@[simp] theorem clearFault_fillColor (s) : (clearFault s).fillColor = s.fillColor := rfl
@[simp] theorem clearFault_strokeColor (s) : (clearFault s).strokeColor = s.strokeColor := rfl
@[simp] theorem clearFault_surfW (s) : (clearFault s).surfW = s.surfW := rfl
@[simp] theorem clearFault_surfH (s) : (clearFault s).surfH = s.surfH := rfl
@[simp] theorem clearFault_bbox (s) : (clearFault s).bbox = s.bbox := rfl
@[simp] theorem clearFault_edge (s) : (clearFault s).edge = s.edge := rfl
@[simp] theorem clearFault_path (s) : (clearFault s).path = s.path := rfl
@[simp] theorem clearFault_ramp (s) : (clearFault s).ramp = s.ramp := rfl
@[simp] theorem clearFault_fb (s) : (clearFault s).fb = s.fb := rfl
@[simp] theorem clearFault_env (s) : (clearFault s).env = s.env := rfl

/-! `seedBBox` -/

@[simp] theorem seedBBox_cfg (s) : (seedBBox s).cfg = s.cfg := rfl
@[simp] theorem seedBBox_status (s) : (seedBBox s).status = s.status := rfl
@[simp] theorem seedBBox_args (s) : (seedBBox s).args = s.args := rfl
@[simp] theorem seedBBox_res0 (s) : (seedBBox s).res0 = s.res0 := rfl
@[simp] theorem seedBBox_res1 (s) : (seedBBox s).res1 = s.res1 := rfl
@[simp] theorem seedBBox_errCmd (s) : (seedBBox s).errCmd = s.errCmd := rfl
@[simp] theorem seedBBox_fillColor (s) : (seedBBox s).fillColor = s.fillColor := rfl
@[simp] theorem seedBBox_strokeColor (s) : (seedBBox s).strokeColor = s.strokeColor := rfl
@[simp] theorem seedBBox_surfW (s) : (seedBBox s).surfW = s.surfW := rfl
@[simp] theorem seedBBox_surfH (s) : (seedBBox s).surfH = s.surfH := rfl
@[simp] theorem seedBBox_bbox (s) : (seedBBox s).bbox = { minX := 0, minY := 0, maxX := w32 (16 * (u32 s.surfW : Int)), maxY := w32 (16 * (u32 s.surfH : Int)) } := rfl
@[simp] theorem seedBBox_edge (s) : (seedBBox s).edge = s.edge := rfl
@[simp] theorem seedBBox_path (s) : (seedBBox s).path = s.path := rfl
@[simp] theorem seedBBox_ramp (s) : (seedBBox s).ramp = s.ramp := rfl
@[simp] theorem seedBBox_fb (s) : (seedBBox s).fb = s.fb := rfl
@[simp] theorem seedBBox_env (s) : (seedBBox s).env = s.env := rfl

/-! `growBBox` -/

@[simp] theorem growBBox_cfg (x y s) : (growBBox x y s).cfg = s.cfg := rfl
@[simp] theorem growBBox_status (x y s) : (growBBox x y s).status = s.status := rfl
@[simp] theorem growBBox_args (x y s) : (growBBox x y s).args = s.args := rfl
@[simp] theorem growBBox_res0 (x y s) : (growBBox x y s).res0 = s.res0 := rfl
@[simp] theorem growBBox_res1 (x y s) : (growBBox x y s).res1 = s.res1 := rfl
@[simp] theorem growBBox_errCmd (x y s) : (growBBox x y s).errCmd = s.errCmd := rfl
@[simp] theorem growBBox_fillColor (x y s) : (growBBox x y s).fillColor = s.fillColor := rfl
@[simp] theorem growBBox_strokeColor (x y s) : (growBBox x y s).strokeColor = s.strokeColor := rfl
@[simp] theorem growBBox_surfW (x y s) : (growBBox x y s).surfW = s.surfW := rfl
@[simp] theorem growBBox_surfH (x y s) : (growBBox x y s).surfH = s.surfH := rfl
@[simp] theorem growBBox_edge (x y s) : (growBBox x y s).edge = s.edge := rfl
@[simp] theorem growBBox_path (x y s) : (growBBox x y s).path = s.path := rfl
@[simp] theorem growBBox_ramp (x y s) : (growBBox x y s).ramp = s.ramp := rfl
@[simp] theorem growBBox_fb (x y s) : (growBBox x y s).fb = s.fb := rfl
@[simp] theorem growBBox_env (x y s) : (growBBox x y s).env = s.env := rfl

/-! `surfaceAcquire` -/

@[simp] theorem surfaceAcquire_cfg (s) : (surfaceAcquire s).cfg = s.cfg := rfl
@[simp] theorem surfaceAcquire_status (s) : (surfaceAcquire s).status = s.status := rfl
@[simp] theorem surfaceAcquire_args (s) : (surfaceAcquire s).args = s.args := rfl
@[simp] theorem surfaceAcquire_res0 (s) : (surfaceAcquire s).res0 = s.res0 := rfl
@[simp] theorem surfaceAcquire_res1 (s) : (surfaceAcquire s).res1 = s.res1 := rfl
@[simp] theorem surfaceAcquire_errCmd (s) : (surfaceAcquire s).errCmd = s.errCmd := rfl
@[simp] theorem surfaceAcquire_fillColor (s) : (surfaceAcquire s).fillColor = s.fillColor := rfl
@[simp] theorem surfaceAcquire_strokeColor (s) : (surfaceAcquire s).strokeColor = s.strokeColor := rfl
@[simp] theorem surfaceAcquire_surfW (s) : (surfaceAcquire s).surfW = s.surfW := rfl
@[simp] theorem surfaceAcquire_surfH (s) : (surfaceAcquire s).surfH = s.surfH := rfl
@[simp] theorem surfaceAcquire_bbox (s) : (surfaceAcquire s).bbox = s.bbox := rfl
@[simp] theorem surfaceAcquire_edge (s) : (surfaceAcquire s).edge = s.edge := rfl
@[simp] theorem surfaceAcquire_path (s) : (surfaceAcquire s).path = s.path := rfl
@[simp] theorem surfaceAcquire_ramp (s) : (surfaceAcquire s).ramp = s.ramp := rfl
@[simp] theorem surfaceAcquire_fb (s) : (surfaceAcquire s).fb = s.fb := rfl

/-! `emit` -/

@[simp] theorem emit_cfg (es s) : (emit es s).cfg = s.cfg := rfl
@[simp] theorem emit_status (es s) : (emit es s).status = s.status := rfl
@[simp] theorem emit_args (es s) : (emit es s).args = s.args := rfl
@[simp] theorem emit_res0 (es s) : (emit es s).res0 = s.res0 := rfl
@[simp] theorem emit_res1 (es s) : (emit es s).res1 = s.res1 := rfl
@[simp] theorem emit_errCmd (es s) : (emit es s).errCmd = s.errCmd := rfl
@[simp] theorem emit_fillColor (es s) : (emit es s).fillColor = s.fillColor := rfl
@[simp] theorem emit_strokeColor (es s) : (emit es s).strokeColor = s.strokeColor := rfl
@[simp] theorem emit_surfW (es s) : (emit es s).surfW = s.surfW := rfl
@[simp] theorem emit_surfH (es s) : (emit es s).surfH = s.surfH := rfl
@[simp] theorem emit_bbox (es s) : (emit es s).bbox = s.bbox := rfl
@[simp] theorem emit_edge (es s) : (emit es s).edge = s.edge := rfl
@[simp] theorem emit_path (es s) : (emit es s).path = s.path := rfl
@[simp] theorem emit_ramp (es s) : (emit es s).ramp = s.ramp := rfl
@[simp] theorem emit_fb (es s) : (emit es s).fb = s.fb := rfl
@[simp] theorem emit_env (es s) : (emit es s).env = { s.env with portLog := s.env.portLog ++ es } := rfl

/-! `fbWrite` -/

@[simp] theorem State.fbWrite_cfg (s : State) (r c v) : (s.fbWrite r c v).cfg = s.cfg := rfl
@[simp] theorem State.fbWrite_status (s : State) (r c v) : (s.fbWrite r c v).status = s.status := rfl
@[simp] theorem State.fbWrite_args (s : State) (r c v) : (s.fbWrite r c v).args = s.args := rfl
@[simp] theorem State.fbWrite_res0 (s : State) (r c v) : (s.fbWrite r c v).res0 = s.res0 := rfl
@[simp] theorem State.fbWrite_res1 (s : State) (r c v) : (s.fbWrite r c v).res1 = s.res1 := rfl
@[simp] theorem State.fbWrite_errCmd (s : State) (r c v) : (s.fbWrite r c v).errCmd = s.errCmd := rfl
@[simp] theorem State.fbWrite_fillColor (s : State) (r c v) : (s.fbWrite r c v).fillColor = s.fillColor := rfl
@[simp] theorem State.fbWrite_strokeColor (s : State) (r c v) : (s.fbWrite r c v).strokeColor = s.strokeColor := rfl
@[simp] theorem State.fbWrite_surfW (s : State) (r c v) : (s.fbWrite r c v).surfW = s.surfW := rfl
@[simp] theorem State.fbWrite_surfH (s : State) (r c v) : (s.fbWrite r c v).surfH = s.surfH := rfl
@[simp] theorem State.fbWrite_bbox (s : State) (r c v) : (s.fbWrite r c v).bbox = s.bbox := rfl
@[simp] theorem State.fbWrite_edge (s : State) (r c v) : (s.fbWrite r c v).edge = s.edge := rfl
@[simp] theorem State.fbWrite_path (s : State) (r c v) : (s.fbWrite r c v).path = s.path := rfl
@[simp] theorem State.fbWrite_ramp (s : State) (r c v) : (s.fbWrite r c v).ramp = s.ramp := rfl
@[simp] theorem State.fbWrite_fb (s : State) (r c v) : (s.fbWrite r c v).fb = Memory.write s.fb (fbKey r c) v := rfl
@[simp] theorem State.fbWrite_env (s : State) (r c v) : (s.fbWrite r c v).env = s.env := rfl

/-! `rampUpdate` -/

@[simp] theorem rampUpdate_cfg (s) : (rampUpdate s).cfg = s.cfg := rfl
@[simp] theorem rampUpdate_status (s) : (rampUpdate s).status = { s.status with rampDirty := false } := rfl
@[simp] theorem rampUpdate_args (s) : (rampUpdate s).args = s.args := rfl
@[simp] theorem rampUpdate_res0 (s) : (rampUpdate s).res0 = s.res0 := rfl
@[simp] theorem rampUpdate_res1 (s) : (rampUpdate s).res1 = s.res1 := rfl
@[simp] theorem rampUpdate_errCmd (s) : (rampUpdate s).errCmd = s.errCmd := rfl
@[simp] theorem rampUpdate_fillColor (s) : (rampUpdate s).fillColor = s.fillColor := rfl
@[simp] theorem rampUpdate_strokeColor (s) : (rampUpdate s).strokeColor = s.strokeColor := rfl
@[simp] theorem rampUpdate_surfW (s) : (rampUpdate s).surfW = s.surfW := rfl
@[simp] theorem rampUpdate_surfH (s) : (rampUpdate s).surfH = s.surfH := rfl
@[simp] theorem rampUpdate_bbox (s) : (rampUpdate s).bbox = s.bbox := rfl
@[simp] theorem rampUpdate_edge (s) : (rampUpdate s).edge = s.edge := rfl
@[simp] theorem rampUpdate_path (s) : (rampUpdate s).path = s.path := rfl
@[simp] theorem rampUpdate_ramp (s) : (rampUpdate s).ramp = rampOf s.strokeColor s.fillColor := rfl
@[simp] theorem rampUpdate_fb (s) : (rampUpdate s).fb = s.fb := rfl
@[simp] theorem rampUpdate_env (s) : (rampUpdate s).env = s.env := rfl

/-! `rampIfDirty` -/

@[simp] theorem rampIfDirty_cfg (s) : (rampIfDirty s).cfg = s.cfg := by unfold rampIfDirty; split <;> rfl
@[simp] theorem rampIfDirty_args (s) : (rampIfDirty s).args = s.args := by unfold rampIfDirty; split <;> rfl
@[simp] theorem rampIfDirty_res0 (s) : (rampIfDirty s).res0 = s.res0 := by unfold rampIfDirty; split <;> rfl
@[simp] theorem rampIfDirty_res1 (s) : (rampIfDirty s).res1 = s.res1 := by unfold rampIfDirty; split <;> rfl
@[simp] theorem rampIfDirty_errCmd (s) : (rampIfDirty s).errCmd = s.errCmd := by unfold rampIfDirty; split <;> rfl
@[simp] theorem rampIfDirty_fillColor (s) : (rampIfDirty s).fillColor = s.fillColor := by unfold rampIfDirty; split <;> rfl
@[simp] theorem rampIfDirty_strokeColor (s) : (rampIfDirty s).strokeColor = s.strokeColor := by unfold rampIfDirty; split <;> rfl
@[simp] theorem rampIfDirty_surfW (s) : (rampIfDirty s).surfW = s.surfW := by unfold rampIfDirty; split <;> rfl
@[simp] theorem rampIfDirty_surfH (s) : (rampIfDirty s).surfH = s.surfH := by unfold rampIfDirty; split <;> rfl
@[simp] theorem rampIfDirty_bbox (s) : (rampIfDirty s).bbox = s.bbox := by unfold rampIfDirty; split <;> rfl
@[simp] theorem rampIfDirty_edge (s) : (rampIfDirty s).edge = s.edge := by unfold rampIfDirty; split <;> rfl
@[simp] theorem rampIfDirty_path (s) : (rampIfDirty s).path = s.path := by unfold rampIfDirty; split <;> rfl
@[simp] theorem rampIfDirty_fb (s) : (rampIfDirty s).fb = s.fb := by unfold rampIfDirty; split <;> rfl
@[simp] theorem rampIfDirty_env (s) : (rampIfDirty s).env = s.env := by unfold rampIfDirty; split <;> rfl

/-! `scan` -/

@[simp] theorem scan_cfg (ok s) : (scan ok s).cfg = s.cfg := rfl
@[simp] theorem scan_status (ok s) : (scan ok s).status = s.status := rfl
@[simp] theorem scan_args (ok s) : (scan ok s).args = s.args := rfl
@[simp] theorem scan_res0 (ok s) : (scan ok s).res0 = s.res0 := rfl
@[simp] theorem scan_res1 (ok s) : (scan ok s).res1 = s.res1 := rfl
@[simp] theorem scan_errCmd (ok s) : (scan ok s).errCmd = s.errCmd := rfl
@[simp] theorem scan_fillColor (ok s) : (scan ok s).fillColor = s.fillColor := rfl
@[simp] theorem scan_strokeColor (ok s) : (scan ok s).strokeColor = s.strokeColor := rfl
@[simp] theorem scan_surfW (ok s) : (scan ok s).surfW = s.surfW := rfl
@[simp] theorem scan_surfH (ok s) : (scan ok s).surfH = s.surfH := rfl
@[simp] theorem scan_bbox (ok s) : (scan ok s).bbox = s.bbox := rfl
@[simp] theorem scan_edge (ok s) : (scan ok s).edge = s.edge := rfl
@[simp] theorem scan_path (ok s) : (scan ok s).path = s.path := rfl
@[simp] theorem scan_ramp (ok s) : (scan ok s).ramp = s.ramp := rfl
@[simp] theorem scan_fb (ok s) : (scan ok s).fb = (scanAll ok s (scanCols s) (scanRows s) s.fb).1 := rfl
@[simp] theorem scan_env (ok s) : (scan ok s).env = { s.env with portLog := s.env.portLog ++ (scanAll ok s (scanCols s) (scanRows s) s.fb).2 } := rfl

/-! `applyToggle`: the flag buffer and CLIP, nothing else -/

@[simp] theorem applyToggle_cfg (p s) : (applyToggle p s).cfg = s.cfg := by unfold applyToggle; split <;> rfl
@[simp] theorem applyToggle_status (p s) : (applyToggle p s).status = { s.status with clip := s.status.clip || (rowOutside (u32 s.surfH) p.row || colOutside (u32 s.surfW) p.col) } := by
  unfold applyToggle; split <;> rename_i h <;> simp_all
@[simp] theorem applyToggle_args (p s) : (applyToggle p s).args = s.args := by unfold applyToggle; split <;> rfl
@[simp] theorem applyToggle_res0 (p s) : (applyToggle p s).res0 = s.res0 := by unfold applyToggle; split <;> rfl
@[simp] theorem applyToggle_res1 (p s) : (applyToggle p s).res1 = s.res1 := by unfold applyToggle; split <;> rfl
@[simp] theorem applyToggle_errCmd (p s) : (applyToggle p s).errCmd = s.errCmd := by unfold applyToggle; split <;> rfl
@[simp] theorem applyToggle_fillColor (p s) : (applyToggle p s).fillColor = s.fillColor := by unfold applyToggle; split <;> rfl
@[simp] theorem applyToggle_strokeColor (p s) : (applyToggle p s).strokeColor = s.strokeColor := by unfold applyToggle; split <;> rfl
@[simp] theorem applyToggle_surfW (p s) : (applyToggle p s).surfW = s.surfW := by unfold applyToggle; split <;> rfl
@[simp] theorem applyToggle_surfH (p s) : (applyToggle p s).surfH = s.surfH := by unfold applyToggle; split <;> rfl
@[simp] theorem applyToggle_bbox (p s) : (applyToggle p s).bbox = s.bbox := by unfold applyToggle; split <;> rfl
@[simp] theorem applyToggle_edge (p s) : (applyToggle p s).edge = s.edge := by unfold applyToggle; split <;> rfl
@[simp] theorem applyToggle_path (p s) : (applyToggle p s).path = s.path := by unfold applyToggle; split <;> rfl
@[simp] theorem applyToggle_ramp (p s) : (applyToggle p s).ramp = s.ramp := by unfold applyToggle; split <;> rfl
@[simp] theorem applyToggle_env (p s) : (applyToggle p s).env = s.env := by unfold applyToggle; split <;> rfl

end Sys2Proof.Machine
end

