-- ==== Sys2Proof/Laws/PerInstr.lean ====
section
/-! SUPPORT. The per-instruction family EncodeFields: what the fields of each command's word are in terms of the opcode
map (30_encoding.md R90, R92, R94). -/

namespace Sys2Proof.Laws

/-- The word of `i` has Z = 0, its OP is in the opcode map, its MOD stays inside the row's mask, and the row builds `i`
from that MOD. -/
def EncodeFields.Statement (i : Instr) : Prop :=
  zField (encode i) = 0 ∧
    ∃ (mask : Byte) (build : Byte → Instr), opRow (opField (encode i)) = some (mask, build) ∧
      modField (encode i) &&& ~~~mask = 0 ∧ build (modField (encode i)) = i

theorem EncodeFields.nop : EncodeFields.Statement .nop := ⟨by decide, _, _, rfl, by decide, rfl⟩

theorem EncodeFields.init : EncodeFields.Statement .init := ⟨by decide, _, _, rfl, by decide, rfl⟩

theorem EncodeFields.deinit : EncodeFields.Statement .deinit := ⟨by decide, _, _, rfl, by decide, rfl⟩

theorem EncodeFields.setFill : EncodeFields.Statement .setFill := ⟨by decide, _, _, rfl, by decide, rfl⟩

theorem EncodeFields.setStroke : EncodeFields.Statement .setStroke := ⟨by decide, _, _, rfl, by decide, rfl⟩

theorem EncodeFields.rampUpdate : EncodeFields.Statement .rampUpdate := ⟨by decide, _, _, rfl, by decide, rfl⟩

theorem EncodeFields.clrErr : EncodeFields.Statement .clrErr := ⟨by decide, _, _, rfl, by decide, rfl⟩

theorem EncodeFields.beginFill : EncodeFields.Statement .beginFill := ⟨by decide, _, _, rfl, by decide, rfl⟩

theorem EncodeFields.pathMove : EncodeFields.Statement .pathMove := ⟨by decide, _, _, rfl, by decide, rfl⟩

theorem EncodeFields.pathLine : EncodeFields.Statement .pathLine := ⟨by decide, _, _, rfl, by decide, rfl⟩

theorem EncodeFields.pathClose : EncodeFields.Statement .pathClose := ⟨by decide, _, _, rfl, by decide, rfl⟩

theorem EncodeFields.edgeDraw : EncodeFields.Statement .edgeDraw := ⟨by decide, _, _, rfl, by decide, rfl⟩

theorem EncodeFields.endFill : EncodeFields.Statement .endFill := ⟨by decide, _, _, rfl, by decide, rfl⟩

theorem EncodeFields.fdivmod : EncodeFields.Statement .fdivmod := ⟨by decide, _, _, rfl, by decide, rfl⟩

theorem EncodeFields.popcnt : EncodeFields.Statement .popcnt := ⟨by decide, _, _, rfl, by decide, rfl⟩

theorem EncodeFields.edgeStep : EncodeFields.Statement .edgeStep := ⟨by decide, _, _, rfl, by decide, rfl⟩

theorem EncodeFields.setMode (aa : Bool) : EncodeFields.Statement (.setMode aa) := by
  cases aa <;> exact ⟨by decide, _, _, rfl, by decide, rfl⟩

theorem EncodeFields.ceil (k : BitVec 4) : EncodeFields.Statement (.ceil k) := by
  refine ⟨by revert k; decide, 0x0F#8, fun m => .ceil (m.extractLsb' 0 4), ?_, by revert k; decide, ?_⟩
  · have : opField (encode (.ceil k)) = 0x21#8 := by revert k; decide
    rw [this]
    rfl
  · have : (modField (encode (.ceil k))).extractLsb' 0 4 = k := by revert k; decide
    exact congrArg Instr.ceil this

theorem EncodeFields.edgeInit (k : BitVec 3) : EncodeFields.Statement (.edgeInit k) := by
  refine ⟨by revert k; decide, 0x07#8, fun m => .edgeInit (m.extractLsb' 0 3), ?_, by revert k; decide, ?_⟩
  · have : opField (encode (.edgeInit k)) = 0x23#8 := by revert k; decide
    rw [this]
    rfl
  · have : (modField (encode (.edgeInit k))).extractLsb' 0 3 = k := by revert k; decide
    exact congrArg Instr.edgeInit this

end Sys2Proof.Laws
end

