-- ==== Sys2Proof/Laws/Scan.lean ====
section
/-! SUPPORT. What the scan does to the flag buffer: it clears exactly the entries it visits and keeps the canonical
form; and the only registers it touches are the buffer and the port log. -/

namespace Sys2Proof.Machine

/-- Scanning a row keeps the canonical form. -/
theorem scanRow_wf (ok : Bool) (s : State) (r : Nat) (cs : List Nat) (acc : Byte) (fb : Memory)
    (h : Memory.wf fb = true) : Memory.wf (scanRow ok s r cs acc fb).1 = true := by
  induction cs generalizing acc fb with
  | nil => exact h
  | cons c cs ih => exact ih _ _ (Memory.write_wf _ _ _ h)

/-- Scanning a row clears exactly the entries of the columns it visits (R193). -/
theorem scanRow_read (ok : Bool) (s : State) (r : Nat) (cs : List Nat) (acc : Byte) (fb : Memory)
    (h : Memory.wf fb = true) (a : Nat) :
    Memory.read (scanRow ok s r cs acc fb).1 a = if ∃ c ∈ cs, a = fbKey r c then 0 else Memory.read fb a := by
  induction cs generalizing acc fb with
  | nil => simp [scanRow]
  | cons c cs ih =>
    simp only [scanRow]
    rw [ih _ _ (Memory.write_wf _ _ _ h), Memory.read_write _ _ _ _ h]
    by_cases h1 : ∃ d ∈ cs, a = fbKey r d
    · rw [if_pos h1, if_pos]
      obtain ⟨d, hd, he⟩ := h1
      exact ⟨d, List.mem_cons_of_mem _ hd, he⟩
    · rw [if_neg h1]
      by_cases h2 : a = fbKey r c
      · rw [if_pos h2, if_pos ⟨c, List.mem_cons_self, h2⟩]
      · rw [if_neg h2, if_neg]
        rintro ⟨d, hd, he⟩
        rcases List.mem_cons.1 hd with rfl | hd
        · exact h2 he
        · exact h1 ⟨d, hd, he⟩

/-- The scan keeps the canonical form. -/
theorem scanAll_wf (ok : Bool) (s : State) (cols rows : List Nat) (fb : Memory) (h : Memory.wf fb = true) :
    Memory.wf (scanAll ok s cols rows fb).1 = true := by
  induction rows generalizing fb with
  | nil => exact h
  | cons r rs ih => exact ih _ (scanRow_wf _ _ _ _ _ _ h)

/-- The scan clears exactly the entries of the rows and columns it visits (R193). -/
theorem scanAll_read (ok : Bool) (s : State) (cols rows : List Nat) (fb : Memory) (h : Memory.wf fb = true) (a : Nat) :
    Memory.read (scanAll ok s cols rows fb).1 a =
      if ∃ r ∈ rows, ∃ c ∈ cols, a = fbKey r c then 0 else Memory.read fb a := by
  induction rows generalizing fb with
  | nil => simp [scanAll]
  | cons r rs ih =>
    simp only [scanAll]
    rw [ih _ (scanRow_wf _ _ _ _ _ _ h), scanRow_read _ _ _ _ _ _ h]
    by_cases h1 : ∃ q ∈ rs, ∃ c ∈ cols, a = fbKey q c
    · rw [if_pos h1, if_pos]
      obtain ⟨q, hq, he⟩ := h1
      exact ⟨q, List.mem_cons_of_mem _ hq, he⟩
    · rw [if_neg h1]
      by_cases h2 : ∃ c ∈ cols, a = fbKey r c
      · rw [if_pos h2, if_pos ⟨r, List.mem_cons_self, h2⟩]
      · rw [if_neg h2, if_neg]
        rintro ⟨q, hq, he⟩
        rcases List.mem_cons.1 hq with rfl | hq
        · exact h2 he
        · exact h1 ⟨q, hq, he⟩

/-- Scan(ok) changes the flag buffer and the port log only. -/
theorem scan_eq (ok : Bool) (s : State) :
    scan ok s = { s with
      fb := (scanAll ok s (scanCols s) (scanRows s) s.fb).1
      env := { s.env with portLog := s.env.portLog ++ (scanAll ok s (scanCols s) (scanRows s) s.fb).2 } } := rfl

/-- A command's fault is recorded under its own word and changes nothing else (R242). -/
theorem raiseIn_eq (i : Instr) (c : FaultCode) (s : State) : raiseIn i c s = afterFault c (encode i) s := rfl

end Sys2Proof.Machine
end

