-- ==== Sys2Proof/Laws/Toggle.lean ====
section
/-! SUPPORT. What the toggles of an edge do: one toggle changes one bit of one entry (or none), a run of toggles changes
the bits that an odd number of them hit, and drawing an edge does that and nothing more to the flag buffer. -/

namespace Sys2Proof.Machine

@[simp] theorem toggle_cfg (s v) : (toggle s v).cfg = s.cfg := by simp [toggle]
@[simp] theorem toggle_surfW (s v) : (toggle s v).surfW = s.surfW := by simp [toggle]
@[simp] theorem toggle_surfH (s v) : (toggle s v).surfH = s.surfH := by simp [toggle]
@[simp] theorem toggle_aa (s v) : (toggle s v).status.aa = s.status.aa := by simp [toggle]

@[simp] theorem toggleCell_toggle (s v w) : toggleCell (toggle s v) w = toggleCell s w := by
  simp [toggleCell]

@[simp] theorem toggleClipped_toggle (s v w) : toggleClipped (toggle s v) w = toggleClipped s w := by
  simp [toggleClipped]

/-- One toggle changes CLIP and the flag buffer only. -/
theorem toggle_eq (s : State) (v : Int × Int) :
    toggle s v = { s with
      status := { s.status with clip := s.status.clip || toggleClipped s v }, fb := (toggle s v).fb } := by
  unfold toggle applyToggle toggleClipped
  split
  · rename_i h
    simp [State.noteClip, State.setStatus, h]
  · rename_i h
    simp [State.noteClip, State.setStatus, State.fbWrite, State.setFb, h]

/-- The mask of a toggle has its one bit set. -/
theorem toggleMask_bit (k b : Nat) (hb : b < 8) : (1#8 <<< k).getLsbD b = decide (k = b) := by
  rw [BitVec.getLsbD_shiftLeft]
  by_cases h : k = b
  · simp [h, hb]
  · rcases Nat.lt_or_ge b k with hlt | hge
    · simp [h, hlt]
    · have : b - k ≠ 0 := by omega
      simp [h, BitVec.getLsbD_one, this]

/-- One toggle changes one bit of one entry, or nothing when its row is dropped. -/
theorem toggle_read (s : State) (v : Int × Int) (hwf : Memory.wf s.fb = true) (a b : Nat) (hb : b < 8) :
    (Memory.read (toggle s v).fb a).getLsbD b =
      ((Memory.read s.fb a).getLsbD b ^^ decide (toggleCell s v = some (a, b))) := by
  unfold toggle applyToggle toggleCell
  split
  · simp
  · simp only [State.fbWrite_fb, State.noteClip_fb, State.fbRead, Memory.read_write _ _ _ _ hwf]
    split
    · rename_i ha
      subst ha
      rw [BitVec.getLsbD_xor, toggleMask_bit _ _ hb]
      simp
    · rename_i ha
      simp [eq_comm, ha]

/-- One toggle keeps the canonical form. -/
theorem toggle_wf (s : State) (v : Int × Int) (hwf : Memory.wf s.fb = true) : Memory.wf (toggle s v).fb = true := by
  unfold toggle applyToggle
  split
  · simpa using hwf
  · simpa using Memory.write_wf _ _ _ hwf

/-- A run of toggles changes CLIP and the flag buffer only. -/
theorem toggles_eq (vs : List (Int × Int)) (s : State) :
    vs.foldl toggle s = { s with
      status := { s.status with clip := s.status.clip || vs.any (toggleClipped s) }, fb := (vs.foldl toggle s).fb } := by
  induction vs generalizing s with
  | nil => simp
  | cons v vs ih =>
    have hany : vs.any (toggleClipped (toggle s v)) = vs.any (toggleClipped s) :=
      congrArg vs.any (funext fun w => toggleClipped_toggle s v w)
    simp only [List.foldl_cons, List.any_cons]
    rw [ih (toggle s v), hany]
    rw [toggle_eq s v]
    simp [Bool.or_assoc]

/-- A run of toggles keeps the canonical form. -/
theorem toggles_wf (vs : List (Int × Int)) (s : State) (hwf : Memory.wf s.fb = true) :
    Memory.wf (vs.foldl toggle s).fb = true := by
  induction vs generalizing s with
  | nil => exact hwf
  | cons v vs ih => exact ih _ (toggle_wf s v hwf)

/-- A run of toggles changes exactly the bits that an odd number of them hit. -/
theorem toggles_fb (vs : List (Int × Int)) (s : State) (hwf : Memory.wf s.fb = true) :
    FbToggled s vs (vs.foldl toggle s).fb := by
  induction vs generalizing s with
  | nil => intro a b _; simp
  | cons v vs ih =>
    intro a b hb
    simp only [List.foldl_cons]
    rw [ih (toggle s v) (toggle_wf s v hwf) a b hb, toggle_read s v hwf a b hb, List.countP_cons]
    simp only [toggleCell_toggle]
    rw [Bool.xor_assoc]
    congr 1
    by_cases h : toggleCell s v = some (a, b)
    · simp only [h, decide_true, if_true]
      rcases Nat.mod_two_eq_zero_or_one (vs.countP fun v => decide (toggleCell s v = some (a, b))) with h2 | h2
      · simp [h2, Nat.add_mod]
      · simp [h2, Nat.add_mod]
    · simp [h]

/-- Drawing an edge: the toggles of its sample points, CLIP, and the exhausted edge; nothing else. -/
theorem drawEdge_eq (x0 y0 x1 y1 : Int) (s : State) (hwf : Memory.wf s.fb = true) :
    ∃ m : Memory, Memory.wf m = true ∧ FbToggled s (edgeSamples s.status.aa x0 y0 x1 y1) m ∧
      drawEdge x0 y0 x1 y1 s = afterDraw x0 y0 x1 y1 m s := by
  refine ⟨_, toggles_wf (edgeSamples s.status.aa x0 y0 x1 y1) s hwf, toggles_fb _ s hwf, ?_⟩
  unfold drawEdge afterDraw
  rw [toggles_eq]
  rfl

end Sys2Proof.Machine
end

