-- ==== Sys2Proof/Tests/Slice0.lean ====
section
/-! SUPPORT. The model's own tests: the smoke test of WellFormed, every command's word written out from the opcode map
(30_encoding.md R94), one or two steps of each command with the results of the spec's rules and vectors
(95_test_vectors.md), and for every statement with hypotheses a state and operands that meet them. -/

namespace Sys2Proof.Tests

open Sys2Proof.Machine

/-! ### Helpers -/

/-- The next state of a command, if there is one. -/
def after (i : Instr) (s : State) : Option State :=
  match exec i s with
  | .next t => some t
  | .fault _ => none
  | .refused _ => none

/-- One step, if it has a next state. -/
def stepped (s : State) : Option State :=
  match step s with
  | .next t => some t
  | .fault _ => none
  | .refused _ => none

/-- Reset with operands. -/
def withArgs (a b c d : Int) (s : State) : State := s.setArgs ⟨w32 a, w32 b, w32 c, w32 d⟩

/-- Reset with the host's next operations. -/
def withOps (ops : List HostOp) : State := setPending ops State.reset

/-- A 2x2 surface, bound, between fills. -/
def bound2 : State :=
  { State.reset with
    status := { State.reset.status with state := .idle }, surfW := 2, surfH := 2,
    bbox := { minX := 0, minY := 0, maxX := 32, maxY := 32 } }

/-- The same in a fill, with flags at (0, 0) and (0, 1), on a surface that grants. -/
def fill2 : State :=
  { bound2 with
    status := { bound2.status with state := .filling }, fb := [(fbKey 0 0, 1), (fbKey 0 1, 1)], fillColor := 7,
    env := { Env.empty with answers := [true] } }

/-- The same on a surface that refuses. -/
def fill2Refused : State := { fill2 with env := { Env.empty with answers := [false] } }

/-- The same in AA mode. -/
def fill2Aa : State := { fill2 with status := { fill2.status with aa := true } }

/-- The same with a path of two vertices open. -/
def path2 : State :=
  { fill2 with
    status := { fill2.status with pathOpen := true }, path := { n := 2, fx := 0, fy := 0, px := 0, py := 32 } }

/-- The same with a path of one vertex open. -/
def path1 : State := { path2 with path := { n := 1, fx := 0, fy := 0, px := 0, py := 0 } }

/-- Reset at another base address. -/
def based : State := { State.reset with cfg := { Config.reference with base := 0x1000 } }

/-! ### WellFormed -/

theorem test_wf_refuses_scale5 : (Instr.edgeInit 5).wf = false := by decide
theorem test_wf_refuses_scale7 : (Instr.edgeInit 7).wf = false := by decide
theorem test_wf_accepts_scale4 : (Instr.edgeInit 4).wf = true := by decide

/-! ### Decoding, each word written out from R94 -/

theorem test_decode_nop : decode 0x00000000#32 = .ok .nop := by decide
theorem test_decode_init : decode 0x01000000#32 = .ok .init := by decide
theorem test_decode_deinit : decode 0x02000000#32 = .ok .deinit := by decide
theorem test_decode_set_mode_bw : decode 0x03000000#32 = .ok (.setMode false) := by decide
theorem test_decode_set_mode_aa : decode 0x03000001#32 = .ok (.setMode true) := by decide
theorem test_decode_set_fill : decode 0x04000000#32 = .ok .setFill := by decide
theorem test_decode_set_stroke : decode 0x05000000#32 = .ok .setStroke := by decide
theorem test_decode_ramp_update : decode 0x06000000#32 = .ok .rampUpdate := by decide
theorem test_decode_clr_err : decode 0x07000000#32 = .ok .clrErr := by decide
theorem test_decode_begin_fill : decode 0x10000000#32 = .ok .beginFill := by decide
theorem test_decode_path_move : decode 0x11000000#32 = .ok .pathMove := by decide
theorem test_decode_path_line : decode 0x12000000#32 = .ok .pathLine := by decide
theorem test_decode_path_close : decode 0x13000000#32 = .ok .pathClose := by decide
theorem test_decode_edge_draw : decode 0x14000000#32 = .ok .edgeDraw := by decide
theorem test_decode_end_fill : decode 0x15000000#32 = .ok .endFill := by decide
theorem test_decode_fdivmod : decode 0x20000000#32 = .ok .fdivmod := by decide
theorem test_decode_ceil : decode 0x2100000E#32 = .ok (.ceil 14) := by decide
theorem test_decode_popcnt : decode 0x22000000#32 = .ok .popcnt := by decide
theorem test_decode_edge_init : decode 0x23000003#32 = .ok (.edgeInit 3) := by decide
theorem test_decode_edge_step : decode 0x24000000#32 = .ok .edgeStep := by decide
/-- V30.2. -/
theorem test_decode_opcode : decode 0x99000000#32 = .error .opcode := by decide
/-- V30.3. -/
theorem test_decode_reserved : decode 0x00FFFF00#32 = .error .reservedBits := by decide
/-- V30.3. -/
theorem test_decode_modifier : decode 0x21000010#32 = .error .modifierBits := by decide
/-- V30.3. -/
theorem test_decode_scale : decode 0x23000005#32 = .error .edgeScale := by decide
theorem test_table_word : decodeTableWord 32 0x23000001 = some (.edgeInit 1) := by decide

/-! ### One step of each command -/

/-- V40.1: -17 by 16. -/
theorem test_fdivmod : (after .fdivmod (withArgs (-17) 16 0 0 State.reset)).map (fun t => (t.res0, t.res1)) =
    some (0xFFFFFFFE, 15) := by decide
/-- V40.2. -/
theorem test_fdivmod_domain : (after .fdivmod (withArgs 5 (-3) 0 0 State.reset)).map (fun t => (busRead 4 t, t.res0)) =
    some (0x450, 0) := by decide
/-- V40.3. -/
theorem test_ceil_min : (after (.ceil 15) (withArgs (-2147483648) 0 0 0 State.reset)).map (·.res0) =
    some 0xFFFF0000 := by decide
/-- V40.3. -/
theorem test_ceil_round : (after (.ceil 15) (withArgs 32769 0 0 0 State.reset)).map (·.res0) = some 2 := by decide
/-- V40.4. -/
theorem test_popcnt : (after .popcnt (withArgs 0x80000001 0 0 0 State.reset)).map (·.res0) = some 2 := by decide
/-- V41.8. -/
theorem test_edge_init : (after (.edgeInit 4) (withArgs 3 (-20) (-9) 13 State.reset)).map (fun t => (t.edge, t.res0)) =
    some (⟨1, w32 (-1), 336, 528, 50, w32 (-1), 2⟩, 2) := by decide
/-- V41.13. -/
theorem test_edge_init_range : (after (.edgeInit 4) (withArgs 32768 0 0 0 State.reset)).map
    (fun t => (t.errCmd, t.status.errCode, t.edge.den)) = some (0x23000004, .range, 0) := by decide
/-- V41.8, the first step. -/
theorem test_edge_step : (after .edgeStep (State.reset.setEdge ⟨1, w32 (-1), 336, 528, 50, w32 (-1), 2⟩)).map
    (fun t => (t.edge, t.res0)) = some (⟨0, w32 (-1), 336, 528, 386, 0, 1⟩, 1) := by decide
/-- V41.14. -/
theorem test_edge_step_reset : (after .edgeStep State.reset).map (·.edge) = some State.reset.edge := by decide
/-- V44.7. -/
theorem test_nop : after .nop fill2 = some fill2 := by decide
/-- V44.1. -/
theorem test_init : (after .init (withArgs 8 8 0 0 State.reset)).map (fun t => (busRead 4 t, t.surfW, t.bbox.maxX)) =
    some (0x11, 8, 128) := by decide
/-- V44.2. -/
theorem test_init_alloc : (after .init (withArgs 257 8 0 0 State.reset)).map (busRead 4) = some 0x350 := by decide
/-- V44.3. -/
theorem test_deinit : (after .deinit bound2).map (fun t => (busRead 4 t, t.surfW, t.bbox.maxX)) =
    some (0x10, 0, 32) := by decide
/-- V44.4. -/
theorem test_set_mode : (after (.setMode true) State.reset).map (busRead 4) = some 0x18 := by decide
/-- V44.4. -/
theorem test_set_mode_fill : (after (.setMode true) fill2).map (fun t => (t.status.aa, t.errCmd)) =
    some (false, 0x03000001) := by decide
/-- R217: a new colour marks the ramp. -/
theorem test_set_fill : (after .setFill (withArgs 0xA 0 0 0 (fill2.setRampDirty false))).map
    (fun t => (t.fillColor, t.status.rampDirty)) = some (0xA, true) := by decide
/-- R218: the same colour does not. -/
theorem test_set_stroke_same : (after .setStroke (withArgs 0 0 0 0 (fill2.setRampDirty false))).map
    (·.status.rampDirty) = some false := by decide
/-- V43.1. -/
theorem test_ramp_update :
    (after .rampUpdate { State.reset with strokeColor := 0x10203040, fillColor := 0x80FF0001 }).map
      (fun t => (t.ramp.get 1, t.ramp.get 4, t.status.rampDirty)) = some (0x1E3C2A38, 0x48901821, false) := by decide
/-- V44.6. -/
theorem test_clr_err : (after .clrErr (raiseFault .domain 0x20000000 State.reset)).map (busRead 4) = some 0x10 := by
  decide
/-- V60.1: the first fault is kept. -/
theorem test_first_fault_kept : (after .endFill (raiseFault .domain 0x20000000 State.reset)).map
    (fun t => (t.status.errCode, t.errCmd)) = some (.domain, 0x20000000) := by decide
/-- R160. -/
theorem test_begin_fill : (after .beginFill bound2).map (fun t => (busRead 4 t, t.bbox.maxY)) = some (0x12, 32) := by
  decide
/-- V42.8. -/
theorem test_path_move : (after .pathMove (withArgs 96 32 0 0 fill2)).map (fun t => (t.path, t.bbox.maxX)) =
    some (⟨1, 96, 32, 96, 32⟩, 96) := by decide
/-- V60.2: SEQ before RANGE. -/
theorem test_path_move_order : (after .pathMove (withArgs 40000 0 0 0 bound2)).map (·.status.errCode) = some .seq := by
  decide
/-- R170, R172: the edge from (0, 32) up to (16, 0) toggles (0, 0) back and (1, 0). -/
theorem test_path_line : (after .pathLine (withArgs 8 0 0 0 path2)).map (fun t => (t.fb, t.path.n, t.status.clip)) =
    some ([(fbKey 0 1, 1), (fbKey 1 0, 1)], 3, false) := by decide
/-- R163. -/
theorem test_path_close : (after .pathClose path2).map (fun t => (t.fb, t.status.pathOpen)) =
    some ([(fbKey 0 1, 1), (fbKey 1 0, 1)], false) := by decide
/-- V42.11. -/
theorem test_path_close_degenerate : (after .pathClose path1).map
    (fun t => (t.status.pathOpen, t.status.errCode, t.errCmd)) = some (false, .degenerate, 0x13000000) := by decide
/-- V42.3: the AA edge (20, 0, 20, 16). -/
theorem test_edge_draw_aa : (after .edgeDraw (withArgs 20 0 20 16 { fill2Aa with fb := [] })).map
    (fun t => (t.fb, t.edge)) = some ([(fbKey 0 1, 0xBE), (fbKey 0 2, 0x41)], ⟨10, 0, 0, 32, 15, 8, 0⟩) := by decide
/-- R172: a column right of the surface goes to the guard column, a row below it is dropped. -/
theorem test_edge_draw_clip : (after .edgeDraw (withArgs 200 0 200 64 { fill2 with fb := [] })).map
    (fun t => (t.fb, t.status.clip)) = some ([(fbKey 0 2, 1), (fbKey 1 2, 1), (fbKey 2 2, 1)], true) := by decide
/-- R193: pixel (0, 0) alone is inside. -/
theorem test_end_fill : (after .endFill fill2).map (fun t => (t.env.portLog, t.fb, t.status.state)) =
    some ([.acquire true, .pixel 0 0 7, .release], [], .idle) := by decide
/-- R194. -/
theorem test_end_fill_refused : (after .endFill fill2Refused).map (fun t => (t.env.portLog, t.fb, busRead 4 t)) =
    some ([.acquire false], [], 0x751) := by decide

/-! ### The bus, reset and the host's program -/

/-- R100: draw_path with two points. -/
theorem test_draw_path : asmExpand Config.reference (.drawPath [(.dec 1, .dec 2), (.px 3 1, .px 1 2)]) =
    some [.write 32 0x0C 1, .write 32 0x10 2, .write 32 0x08 0x11000000, .write 32 0x0C 48, .write 32 0x10 8,
      .write 32 0x08 0x12000000, .write 32 0x08 0x13000000] := by decide
theorem test_fetch_word : (stepped (State.reset.withFetchWord 32 0x01000000)).map (fun t => (t.status.errCode, t.errCmd)) =
    some (.alloc, 0x01000000) := by decide
theorem test_read_id : (stepped (withOps [.access (.read 32 0)])).map (·.env.readLog) = some [0x46504231] := by decide
theorem test_read_perm : busRead 0x7C State.reset = 0x46152037 := by decide

/-! ### Witnesses: states and operands that meet the hypotheses of the statements -/

theorem witness_StepRunsDecodedCommand :
    (withOps [.access (.write 32 (State.reset.cfg.base + 0x08) 0x21000004)]).env.pending =
      .access (.write 32 ((withOps [.access (.write 32 (State.reset.cfg.base + 0x08) 0x21000004)]).cfg.base + 0x08)
        0x21000004) :: [] ∧ decode 0x21000004#32 = .ok (.ceil 4) := by decide
theorem witness_IllegalCommandIsRecorded :
    (withOps [.access (.write 32 0x08 0x99000000)]).env.pending =
      .access (.write 32 ((withOps [.access (.write 32 0x08 0x99000000)]).cfg.base + 0x08) 0x99000000) :: [] ∧
    decode 0x99000000#32 = .error .opcode := by decide
theorem witness_StepWritesArgument : ∀ off ∈ [0x0C, 0x10, 0x14, 0x18],
    (withOps [.access (.write 32 off 5)]).env.pending =
      .access (.write 32 ((withOps [.access (.write 32 off 5)]).cfg.base + off) 5) :: [] := by decide
theorem witness_StepReadsRegister : ∀ off ∈ [0x00, 0xFC],
    (withOps [.access (.read 32 off)]).env.pending =
      .access (.read 32 ((withOps [.access (.read 32 off)]).cfg.base + off)) :: [] ∧ off < 0x100 ∧ off % 4 = 0 := by
  decide
theorem witness_ConstantRegisters : State.reset.cfg = Config.reference ∧ step State.reset = .next State.reset :=
  ⟨rfl, rfl⟩
theorem witness_ReservedOffsets : ∀ off ∈ [0xA4, 0xFC],
    0xA4 ≤ off ∧ off ≤ 0xFC ∧ off % 4 = 0 ∧
    (withOps [.access (.read 32 off)]).env.pending =
      .access (.read 32 ((withOps [.access (.read 32 off)]).cfg.base + off)) :: [] ∧
    (withOps [.access (.write 32 off 5)]).env.pending =
      .access (.write 32 ((withOps [.access (.write 32 off 5)]).cfg.base + off) 5) :: [] := by decide
theorem witness_ReadOnlyWritesAreIgnored : ∀ off ∈ [0x00, 0x04, 0x1C, 0xFC],
    off < 0x100 ∧ off % 4 = 0 ∧ off ≠ 0x08 ∧ off ≠ 0x0C ∧ off ≠ 0x10 ∧ off ≠ 0x14 ∧ off ≠ 0x18 ∧
    (withOps [.access (.write 32 off 5)]).env.pending =
      .access (.write 32 ((withOps [.access (.write 32 off 5)]).cfg.base + off) 5) :: [] := by decide
theorem witness_UndefinedAccesses_width :
    (withOps [.access (.read 8 0)]).env.pending = .access (.read 8 0) :: [] ∧ (8 : Nat) ≠ 32 := by decide
theorem witness_UndefinedAccesses_window :
    (setPending [.access (.write 32 0x1100 5)] based).env.pending = .access (.write 32 0x1100 5) :: [] ∧
    based.cfg.base + 0x100 ≤ 0x1100 ∧
    (setPending [.access (.read 32 0xFFF)] based).env.pending = .access (.read 32 0xFFF) :: [] ∧
    0xFFF < based.cfg.base := by decide
theorem witness_UndefinedAccesses_alignment :
    (setPending [.access (.read 32 0x10FF)] based).env.pending = .access (.read 32 0x10FF) :: [] ∧
    based.cfg.base ≤ 0x10FF ∧ 0x10FF < based.cfg.base + 0x100 ∧ (0x10FF - based.cfg.base) % 4 ≠ 0 := by decide
theorem witness_LoopRepeatsUntilValue :
    (withOps [.untilRead [.write 32 0x08 0x24000000] (State.reset.cfg.base + 0x60) 0]).env.pending =
      .untilRead [.write 32 0x08 0x24000000] (State.reset.cfg.base + 0x60) 0 :: [] ∧
    busRead 0x60 State.reset = 0 ∧ busRead 0x00 State.reset ≠ 0 := by decide
theorem witness_HardwareResetEffect : (withOps [.reset]).env.pending = .reset :: [] := by decide
theorem witness_FloorDivModLaw : (0 : Int) < 1 := by decide
theorem witness_FdivmodResult : 0 < s32 (withArgs (-2147483648) 1 0 0 State.reset).args.arg1 := by decide
theorem witness_FdivmodDomainFault : s32 (withArgs 5 0 0 0 State.reset).args.arg1 ≤ 0 := by decide
/-- One edge from the top down, one from the bottom up, and one without rows. -/
theorem witness_EdgeInitLoadsEdge :
    edgeScaleOk 4 = true ∧ (withArgs 0 0 16 32 State.reset).coords4Ok = true ∧
    (withArgs 0 0 16 32 State.reset).sArg1 ≤ (withArgs 0 0 16 32 State.reset).sArg3 ∧
    (withArgs 32767 32767 (-32768) (-32768) State.reset).coords4Ok = true ∧
    (withArgs 32767 32767 (-32768) (-32768) State.reset).sArg3 <
      (withArgs 32767 32767 (-32768) (-32768) State.reset).sArg1 ∧
    (withArgs 0 5 100 5 State.reset).coords4Ok = true := by decide
theorem witness_EdgeInitFaults :
    (4#3).toNat ≤ 4 ∧ (withArgs 32768 0 0 0 State.reset).coords4Ok = false ∧ 4 < (5#3).toNat := by decide
/-- An edge with rows, loaded and stepped once: the second clause of EdgeStepAdvances, and EdgeRegistersInRange. -/
theorem witness_EdgeStepAdvances_rows : EdgeLoaded (walkEnd 1 (edgeInit 0 0 16 32 4).1) ∧
    (walkEnd 1 (edgeInit 0 0 16 32 4).1).h = 1 :=
  ⟨.inr ⟨0, 0, 16, 32, 4, 1, by decide, by decide, by decide, by decide, by decide, by decide, rfl⟩, by decide⟩
/-- The edge registers after reset, with E_H and E_DEN 0: the first clause of EdgeStepAdvances, and
EdgeRegistersInRange. -/
theorem witness_EdgeStepAdvances_exhausted : EdgeLoaded State.reset.edge ∧ State.reset.edge.h = 0 := ⟨.inl rfl, rfl⟩
/-- The last row of an edge at the ends of the range. -/
theorem witness_EdgeWalkIsExact :
    edgeCoordOk (-32776) = true ∧ edgeCoordOk 32767 = true ∧ (-32776 : Int) ≤ 32767 ∧
    0 < ceilDiv 32767 4 - ceilDiv (-32776) 4 ∧ ((4096 : Nat) : Int) ≤ ceilDiv 32767 4 - ceilDiv (-32776) 4 := by decide
theorem witness_EdgeSamplesAreExact :
    coordOk (-32768) = true ∧ coordOk 32767 = true ∧ (-32768 : Int) ≤ 32767 ∧
    edgeSamples false 20 0 40 32 = [(2, 0), (2, 1)] ∧ edgeSamples true 0 0 4 4 = [(0, 0), (1, 1)] := by decide
theorem witness_BeginFillStartsFill : bound2.status.state = .idle := by decide
theorem witness_PathMoveStartsPath :
    fill2.status.state = .filling ∧ fill2.status.pathOpen = false ∧ fill2.coords2Ok = true := by decide
theorem witness_PathLineDrawsEdge :
    Memory.wf path2.fb = true ∧ path2.status.state = .filling ∧ path2.status.pathOpen = true ∧
    (withArgs 32767 (-32768) 0 0 path2).coords2Ok = true := by decide
theorem witness_PathCloseDrawsWrapEdge :
    Memory.wf path2.fb = true ∧ path2.status.state = .filling ∧ path2.status.pathOpen = true ∧ 2 ≤ u32 path2.path.n := by
  decide
theorem witness_PathCloseDegenerateFault :
    path1.status.state = .filling ∧ path1.status.pathOpen = true ∧ u32 path1.path.n < 2 := by decide
theorem witness_EdgeDrawDrawsEdge :
    Memory.wf fill2.fb = true ∧ fill2.status.state = .filling ∧ (withArgs 0 0 16 32 fill2).coords4Ok = true := by decide
theorem witness_CoordinateRangeFaults :
    fill2.status.state = .filling ∧ fill2.status.pathOpen = false ∧ (withArgs 32768 0 0 0 fill2).coords2Ok = false ∧
    path2.status.state = .filling ∧ path2.status.pathOpen = true ∧ (withArgs 0 (-32769) 0 0 path2).coords2Ok = false ∧
    (withArgs 0 0 0 32768 fill2).coords4Ok = false := by decide

/-- A machine in a fill with flags set meets the invariant. -/
theorem witness_inv_fill2 : fill2.Inv :=
  ⟨by decide, by decide, by decide, by decide, by decide, by decide, by decide, by decide, by decide, by decide,
    by decide, by decide⟩
theorem witness_inv_fill2Refused : fill2Refused.Inv :=
  ⟨by decide, by decide, by decide, by decide, by decide, by decide, by decide, by decide, by decide, by decide,
    by decide, by decide⟩
theorem witness_inv_fill2Aa : fill2Aa.Inv :=
  ⟨by decide, by decide, by decide, by decide, by decide, by decide, by decide, by decide, by decide, by decide,
    by decide, by decide⟩
theorem witness_ClosedPathKeepsRowParity :
    fill2.Inv ∧ fill2.status.state = .filling ∧ fill2.status.pathOpen = false ∧
    ([(w32 32767, w32 (-32768)), (16, 16)] : List (Word × Word)) ≠ [] ∧
    ∀ q ∈ ([(0, 0), (w32 32767, w32 (-32768)), (16, 16)] : List (Word × Word)),
      coordOk (s32 q.1) = true ∧ coordOk (s32 q.2) = true := ⟨witness_inv_fill2, by decide, by decide, by decide, by intro q hq; fin_cases hq <;> decide⟩
theorem witness_EndFillBwPaintsParity :
    fill2.Inv ∧ fill2.status.state = .filling ∧ fill2.status.pathOpen = false ∧ fill2.status.aa = false ∧
    fill2.surfaceAnswer = true ∧ (after .endFill fill2).isSome = true :=
  ⟨witness_inv_fill2, by decide, by decide, by decide, by decide, by decide⟩
theorem witness_EndFillBwImage :
    fill2.Inv ∧ fill2.status.state = .filling ∧ fill2.status.pathOpen = false ∧ fill2.status.aa = false ∧
    fill2.surfaceAnswer = true ∧ surfacePixel (fun _ _ => 3) [.pixel 0 0 7] 0 0 = 7 :=
  ⟨witness_inv_fill2, by decide, by decide, by decide, by decide, by decide⟩
/-- Both answers of the surface. -/
theorem witness_EndFillDrainsBuffer :
    fill2.Inv ∧ fill2.status.state = .filling ∧ fill2.status.pathOpen = false ∧ (after .endFill fill2).isSome = true ∧
    fill2Refused.Inv ∧ (after .endFill fill2Refused).isSome = true ∧ fill2.fbRead 0 1 = 1 :=
  ⟨witness_inv_fill2, by decide, by decide, by decide, witness_inv_fill2Refused, by decide, by decide⟩
theorem witness_PixelWritesInScanOrder : (after .endFill fill2).map (fun t => pixelCoords t.env.portLog) =
    some [(0, 0)] := by decide
theorem witness_EndFillAaPaintsCoverage :
    fill2Aa.Inv ∧ fill2Aa.status.state = .filling ∧ fill2Aa.status.pathOpen = false ∧ fill2Aa.status.aa = true ∧
    fill2Aa.surfaceAnswer = true := ⟨witness_inv_fill2Aa, by decide, by decide, by decide, by decide⟩
theorem witness_EndFillSurfaceRefused :
    fill2Refused.Inv ∧ fill2Refused.status.state = .filling ∧ fill2Refused.status.pathOpen = false ∧
    fill2Refused.surfaceAnswer = false := ⟨witness_inv_fill2Refused, by decide, by decide, by decide⟩
theorem witness_DrawingTwiceCancels :
    Memory.wf fill2.fb = true ∧ fill2.status.state = .filling ∧ (withArgs 0 32 40 0 fill2).coords4Ok = true := by decide
/-- The smallest and the largest surface. -/
theorem witness_InitBindsSurface :
    State.reset.status.state = .unbound ∧ 1 ≤ u32 (withArgs 1 256 0 0 State.reset).args.arg0 ∧
    u32 (withArgs 1 256 0 0 State.reset).args.arg0 ≤ State.reset.cfg.maxW ∧
    1 ≤ u32 (withArgs 1 256 0 0 State.reset).args.arg1 ∧
    u32 (withArgs 1 256 0 0 State.reset).args.arg1 ≤ State.reset.cfg.maxH := by decide
theorem witness_InitAllocFault :
    u32 (withArgs 0 8 0 0 State.reset).args.arg0 < 1 ∧ State.reset.cfg.maxW < u32 (withArgs 257 8 0 0 State.reset).args.arg0 ∧
    u32 (withArgs 8 0 0 0 State.reset).args.arg1 < 1 ∧
    State.reset.cfg.maxH < u32 (withArgs 8 (-1) 0 0 State.reset).args.arg1 := by decide
theorem witness_DeinitReleasesSurface : fill2.status.state ≠ .unbound ∧ bound2.status.state ≠ .unbound := by decide
theorem witness_SetModeSelectsStrategy : bound2.status.state ≠ .filling ∧ State.reset.status.state ≠ .filling := by decide
theorem witness_LegalityTable :
    (Instr.endFill).wf = true ∧ legalIn .endFill path2.status.state path2.status.pathOpen = false ∧
    legalIn .endFill fill2.status.state fill2.status.pathOpen = true ∧ fill2.status.errCode ≠ .seq := by decide
/-- Each of the three kinds of fault: recorded alone, with the path closed, with the fill ended. -/
theorem witness_FaultsArePrecise :
    State.reset.status.err = false ∧ (after .endFill State.reset).map (·.status.err) = some true ∧
    path1.status.err = false ∧ (after .pathClose path1).map (·.status.err) = some true ∧
    fill2Refused.status.err = false ∧ (after .endFill fill2Refused).map (·.status.err) = some true := by decide
theorem witness_StickyStatusIsKept :
    (fill2.noteClip true).status.clip = true ∧ (raiseFault .range 5 fill2).status.err = true ∧
    (after .endFill (raiseFault .range 5 (fill2.noteClip true))).isSome = true := by decide
/-- Each of the four transitions. -/
theorem witness_ContextTransitions :
    (after .init (withArgs 8 8 0 0 State.reset)).map (·.status.state) = some .idle ∧
    (after .deinit fill2).map (·.status.state) = some .unbound ∧
    (after .beginFill bound2).map (·.status.state) = some .filling ∧
    (after .endFill fill2).map (·.status.state) = some .idle := by decide
/-- Each clause's register changes under a command that may write it. -/
theorem witness_RegisterWriters :
    (after .fdivmod (withArgs 7 2 0 0 State.reset)).map (fun t => (t.res0, t.res1)) = some (3, 1) ∧
    (after .setFill (withArgs 5 0 0 0 State.reset)).map (·.fillColor) = some 5 ∧
    (after .setStroke (withArgs 5 0 0 0 State.reset)).map (·.strokeColor) = some 5 ∧
    (after .deinit bound2).map (·.surfW) = some 0 ∧ (after (.setMode true) bound2).map (·.status.aa) = some true ∧
    (after .rampUpdate fill2).map (fun t => t.ramp.get 8) = some 7 := by decide
/-- A step from a state within the invariant: an END_FILL that paints. -/
theorem witness_StepKeepsInvariant :
    fill2.Inv ∧ (stepped (fill2.withFetchWord 32 0x15000000)).map (·.status.state) = some .idle :=
  ⟨witness_inv_fill2, by decide⟩
theorem witness_StepKeepsEdgeInvariant :
    path2.EdgeInv ∧ (stepped (path2.withFetchWord 32 0x13000000)).map (fun t => (t.edge.den, t.edge.h)) =
      some (512, 0) :=
  ⟨⟨.inl rfl, by decide, by decide, by decide, by decide⟩, by decide⟩

end Sys2Proof.Tests
end

section
/-! The constant registers (10_state.md R38): the fields of the words of CAPS and PERM, and that no step changes
the configuration they come from. Then the theorem that settles O10. -/

namespace Sys2Proof.Machine

/-! ### What the constant registers read as -/

theorem busRead_id (s : State) : busRead 0x00 s = 0x46504231#32 := rfl
theorem busRead_caps (s : State) : busRead 0x78 s = capsWord s.cfg := rfl
theorem busRead_perm (s : State) : busRead 0x7C s = permWord s.cfg := rfl

theorem capsWord_maxW (c : Config) : (capsWord c).extractLsb' 0 16 = BitVec.ofNat 16 c.maxW :=
  BitVec.extractLsb'_append_eq_right

theorem capsWord_maxH (c : Config) : (capsWord c).extractLsb' 16 16 = BitVec.ofNat 16 c.maxH :=
  BitVec.extractLsb'_append_eq_left

/-- A 3-bit value in a digit of four bits; the bit above it reads 0 on both sides. The index is that of digit 0. -/
theorem digit_getLsbD (v : BitVec 3) {j : Nat} (hj : j < 4) : (v.setWidth 4).getLsbD (4 * 0 + j) = v.getLsbD j := by
  simp [hj]

/-- Digit 0 of a word is the last one appended. -/
theorem append_digit_getLsbD_zero {n : Nat} (x : BitVec n) (v : BitVec 3) {j : Nat} (hj : j < 4) :
    (x ++ v.setWidth 4).getLsbD (4 * 0 + j) = v.getLsbD j := by
  rw [BitVec.getLsbD_append, if_pos (by omega), digit_getLsbD v hj]

/-- The digits above digit 0 are those of the word it was appended to. -/
theorem append_digit_getLsbD_succ {n : Nat} (x : BitVec n) (v : BitVec 3) (i j : Nat) :
    (x ++ v.setWidth 4).getLsbD (4 * (i + 1) + j) = x.getLsbD (4 * i + j) := by
  rw [BitVec.getLsbD_append, if_neg (by omega)]
  congr 1
  omega

/-- Digit k of PERM is PERM[k] (R38). -/
theorem permWord_getLsbD (c : Config) (k : Fin 8) {j : Nat} (hj : j < 4) :
    (permWord c).getLsbD (4 * k.val + j) = (c.perm.get k).getLsbD j := by
  fin_cases k <;>
    simp only [permWord, append_digit_getLsbD_succ, append_digit_getLsbD_zero _ _ hj, digit_getLsbD _ hj] <;> rfl

theorem permWord_field (c : Config) (k : Fin 8) : (permWord c).extractLsb' (4 * k.val) 3 = c.perm.get k := by
  ext j hj
  rw [BitVec.getElem_extractLsb', permWord_getLsbD c k (by omega), BitVec.getLsbD_eq_getElem hj]

theorem permWord_gap (c : Config) (k : Fin 8) : (permWord c).getLsbD (4 * k.val + 3) = false := by
  rw [permWord_getLsbD c k (by omega), BitVec.getLsbD_of_ge _ _ (le_refl 3)]

theorem capsWord_reference : capsWord Config.reference = 0x01000100#32 := by decide
theorem permWord_reference : permWord Config.reference = 0x46152037#32 := by decide

/-! ### What an outcome can answer -/

/-- Every state that the outcome `o` can answer has the property `P`; a refusal or a fault answers none. -/
def NextHas (P : State → Prop) (o : Host.Outcome State Fault Refusal) : Prop := ∀ t, o = .next t → P t

@[simp] theorem nextHas_next (P : State → Prop) (t : State) : NextHas P (.next t) ↔ P t := by simp [NextHas]

@[simp] theorem nextHas_refused (P : State → Prop) (r : Refusal) : NextHas P (.refused r) := by simp [NextHas]

/-- A check has the outcome of one of its two branches. -/
theorem nextHas_ite {P : State → Prop} {p : Prop} [Decidable p] {a b : Host.Outcome State Fault Refusal}
    (ha : NextHas P a) (hb : NextHas P b) : NextHas P (if p then a else b) := by
  split
  · exact ha
  · exact hb

/-! ### No operation changes the configuration -/

@[simp] theorem raiseIn_cfg (i : Instr) (c : FaultCode) (s : State) : (raiseIn i c s).cfg = s.cfg :=
  raiseFault_cfg c (encode i) s
@[simp] theorem zeroFb_cfg (s : State) : (zeroFb s).cfg = s.cfg := rfl
@[simp] theorem initEffects_cfg (s : State) : (initEffects s).cfg = s.cfg := rfl
@[simp] theorem deinitEffects_cfg (s : State) : (deinitEffects s).cfg = s.cfg := rfl
@[simp] theorem returnRead_cfg (w : Word) (s : State) : (returnRead w s).cfg = s.cfg := rfl
@[simp] theorem setPending_cfg (ops : List HostOp) (s : State) : (setPending ops s).cfg = s.cfg := rfl
@[simp] theorem hardwareReset_cfg (s : State) : (hardwareReset s).cfg = s.cfg := rfl

@[simp] theorem drawEdge_cfg (x0 y0 x1 y1 : Int) (s : State) : (drawEdge x0 y0 x1 y1 s).cfg = s.cfg := by
  rw [drawEdge, toggles_eq]
  rfl

@[simp] theorem endFillBody_cfg (ok : Bool) (s : State) : (endFillBody ok s).cfg = s.cfg := by
  cases ok <;> simp [endFillBody]

/-- No command changes the configuration (R43): the commands without a check first, then those with one check, then
those with two. -/
theorem exec_cfg (i : Instr) (s : State) : NextHas (·.cfg = s.cfg) (exec i s) := by
  cases i with
  | nop => simp [exec, execNop]
  | setFill => simp [exec, execSetFill]
  | setStroke => simp [exec, execSetStroke]
  | rampUpdate => simp [exec, execRampUpdate]
  | clrErr => simp [exec, execClrErr]
  | ceil k => simp [exec, execCeil]
  | popcnt => simp [exec, execPopcnt]
  | edgeStep => simp [exec, execEdgeStep]
  | deinit => exact nextHas_ite (by simp) (by simp)
  | setMode aa => exact nextHas_ite (by simp) (by simp)
  | beginFill => exact nextHas_ite (by simp) (by simp)
  | endFill => exact nextHas_ite (by simp) (by simp)
  | fdivmod => exact nextHas_ite (by simp) (by simp)
  | init => exact nextHas_ite (by simp) (nextHas_ite (by simp) (by simp))
  | pathMove => exact nextHas_ite (by simp) (nextHas_ite (by simp) (by simp))
  | pathLine => exact nextHas_ite (by simp) (nextHas_ite (by simp) (by simp))
  | pathClose => exact nextHas_ite (by simp) (nextHas_ite (by simp) (by simp))
  | edgeDraw => exact nextHas_ite (by simp) (nextHas_ite (by simp) (by simp))
  | edgeInit k => exact nextHas_ite (by simp) (nextHas_ite (by simp) (by simp))

theorem runCommand_cfg (w : Word) (s : State) : NextHas (·.cfg = s.cfg) (runCommand w s) := by
  cases h : decode w with
  | ok i => simpa only [runCommand_ok w i s h] using exec_cfg i s
  | error e => simp [runCommand_error w e s h]

theorem busWrite_cfg (off : Nat) (w : Word) (s : State) : NextHas (·.cfg = s.cfg) (busWrite off w s) := by
  unfold busWrite
  split
  case h_1 => exact runCommand_cfg w s
  all_goals simp

theorem busAccess_cfg (a : BusAccess) (s : State) : NextHas (·.cfg = s.cfg) (busAccess a s) := by
  cases a with
  | read bits addr => cases h : windowOffset s.cfg bits addr <;> simp [busAccess, h]
  | write bits addr w =>
    cases h : windowOffset s.cfg bits addr with
    | error e => simp [busAccess, h]
    | ok off => simpa only [busAccess, h] using busWrite_cfg off w s

theorem serveOp_cfg (op : HostOp) (rest : List HostOp) (s : State) : NextHas (·.cfg = s.cfg) (serveOp op rest s) := by
  cases op with
  | access a => exact busAccess_cfg a (setPending rest s)
  | untilRead body addr value => cases h : windowOffset s.cfg 32 addr <;> simp [serveOp, h]
  | reset => simp [serveOp]

/-- No step changes the configuration (R43): not a command, nor any other access, nor a loop's end, nor a reset. -/
theorem step_cfg (s : State) : NextHas (·.cfg = s.cfg) (step s) := by
  cases h : s.env.pending with
  | nil => simp [step_idle s h]
  | cons op rest => simpa only [step_pending s op rest h] using serveOp_cfg op rest s

/-- Settles O10: the three words are functions of the configuration alone, and no step changes the configuration. -/
theorem constantRegisters : Obligations.ConstantRegisters := by
  unfold Obligations.ConstantRegisters
  refine ⟨fun s => ⟨busRead_id s, ?caps_low, ?caps_high, fun k => ⟨?perm_field, ?perm_gap⟩, fun href => ?reference⟩,
    step_cfg⟩
  case caps_low => rw [busRead_caps, capsWord_maxW]
  case caps_high => rw [busRead_caps, capsWord_maxH]
  case perm_field => rw [busRead_perm, permWord_field]
  case perm_gap => rw [busRead_perm, permWord_gap]
  case reference => simp only [busRead_caps, busRead_perm, href, capsWord_reference, permWord_reference, and_self]

end Sys2Proof.Machine
end

section
/-! The order of the PixelWrites (20_memory.md R73, R74): a scan visits a grid of places in scan order, and what it paints
is a sublist of the places of that grid that are on the surface. Then the theorem that settles O43. -/

namespace Sys2Proof.Machine

/-! ### The coordinates of the PixelWrites among some transactions -/

@[simp] theorem pixelCoords_nil : pixelCoords [] = [] := rfl
@[simp] theorem pixelCoords_pixel (x y : Nat) (w : Word) (es : List PortEvent) :
    pixelCoords (.pixel x y w :: es) = (x, y) :: pixelCoords es := rfl
@[simp] theorem pixelCoords_acquire (ok : Bool) (es : List PortEvent) :
    pixelCoords (.acquire ok :: es) = pixelCoords es := rfl
@[simp] theorem pixelCoords_release (es : List PortEvent) : pixelCoords (.release :: es) = pixelCoords es := rfl
@[simp] theorem pixelCoords_append (es fs : List PortEvent) :
    pixelCoords (es ++ fs) = pixelCoords es ++ pixelCoords fs := List.filterMap_append

/-! ### The scan order -/

/-- The place `p` comes before the place `q` in the scan: in an earlier row, or earlier in the same row (R74). -/
def scanBefore (p q : Nat × Nat) : Prop := p.2 < q.2 ∨ p.2 = q.2 ∧ p.1 < q.1

/-- Whether a place is on a surface of width `w` and height `h` (R73). -/
def onSurface (w h : Word) (p : Nat × Nat) : Bool := decide (p.1 < u32 w) && decide (p.2 < u32 h)

@[simp] theorem onSurface_iff (w h : Word) (p : Nat × Nat) : onSurface w h p = true ↔ p.1 < u32 w ∧ p.2 < u32 h := by
  simp [onSurface]

/-- The places that a scan over `cols` and `rows` visits, in its order (R193). -/
def scanGrid (cols rows : List Nat) : List (Nat × Nat) := rows.flatMap fun r => cols.map fun c => (c, r)

theorem scanGrid_pairwise {cols rows : List Nat} (hc : cols.Pairwise (· < ·)) (hr : rows.Pairwise (· < ·)) :
    (scanGrid cols rows).Pairwise scanBefore := by
  refine List.pairwise_flatMap.2 ⟨fun r _ => ?same_row, hr.imp fun hlt p hp q hq => ?later_row⟩
  case same_row => exact List.pairwise_map.2 (hc.imp fun hlt => .inr ⟨rfl, hlt⟩)
  case later_row =>
    obtain ⟨c, -, rfl⟩ := List.mem_map.1 hp
    obtain ⟨d, -, rfl⟩ := List.mem_map.1 hq
    exact .inl hlt

theorem scanCols_pairwise (s : State) : (scanCols s).Pairwise (· < ·) := List.pairwise_lt_range'
theorem scanRows_pairwise (s : State) : (scanRows s).Pairwise (· < ·) := List.pairwise_lt_range'

/-! ### What a scan paints is a sublist of what it visits -/

/-- A visit paints its own place at most, and only on the surface. -/
theorem pixelAt_coords_sublist (ok : Bool) (s : State) (r c : Nat) (acc : Byte) :
    (pixelCoords (pixelAt ok s r c acc)).Sublist ([(c, r)].filter (onSurface s.surfW s.surfH)) := by
  by_cases h : onSurface s.surfW s.surfH (c, r) = true
  · rw [List.filter_cons_of_pos h]
    unfold pixelAt
    split_ifs <;> simp
  · have hnone : pixelAt ok s r c acc = [] := if_neg fun hpaint => h (by simp_all)
    simp [hnone]

theorem scanRow_coords_sublist (ok : Bool) (s : State) (r : Nat) (cols : List Nat) (acc : Byte) (fb : Memory) :
    (pixelCoords (scanRow ok s r cols acc fb).2).Sublist
      ((cols.map fun c => (c, r)).filter (onSurface s.surfW s.surfH)) := by
  induction cols generalizing acc fb with
  | nil => simp [scanRow]
  | cons c cs ih =>
    rw [scanRow, pixelCoords_append, List.map_cons, ← List.singleton_append, List.filter_append]
    exact (pixelAt_coords_sublist ok s r c _).append (ih _ _)

theorem scanAll_coords_sublist (ok : Bool) (s : State) (cols rows : List Nat) (fb : Memory) :
    (pixelCoords (scanAll ok s cols rows fb).2).Sublist
      ((scanGrid cols rows).filter (onSurface s.surfW s.surfH)) := by
  induction rows generalizing fb with
  | nil => simp [scanAll]
  | cons r rs ih =>
    rw [scanAll, pixelCoords_append, scanGrid, List.flatMap_cons, List.filter_append]
    exact (scanRow_coords_sublist ok s r cols 0 fb).append (ih _)

/-! ### What END_FILL adds to the port log -/

/-- The PixelWrites among `es` come in scan order, on a surface of width `w` and height `h` (R73, R74). -/
def PaintsInScanOrder (w h : Word) (es : List PortEvent) : Prop :=
  (pixelCoords es).Pairwise scanBefore ∧ ∀ p ∈ pixelCoords es, p.1 < u32 w ∧ p.2 < u32 h

/-- The transactions of Scan(ok). -/
def scanEvents (ok : Bool) (s : State) : List PortEvent := (scanAll ok s (scanCols s) (scanRows s) s.fb).2

/-- Scan order and the bounds pass from the grid's places on the surface to what is painted of them. -/
theorem scanEvents_paintsInScanOrder (ok : Bool) (s : State) :
    PaintsInScanOrder s.surfW s.surfH (scanEvents ok s) := by
  have hsub := scanAll_coords_sublist ok s (scanCols s) (scanRows s) s.fb
  have hgrid := scanGrid_pairwise (scanCols_pairwise s) (scanRows_pairwise s)
  exact ⟨(hgrid.filter _).sublist hsub, fun p hp => (onSurface_iff ..).1 (List.mem_filter.1 (hsub.subset hp)).2⟩

theorem surfaceAcquire_portLog (s : State) :
    (surfaceAcquire s).env.portLog = s.env.portLog ++ [.acquire s.surfaceAnswer] := rfl

@[simp] theorem raiseIn_env (i : Instr) (c : FaultCode) (s : State) : (raiseIn i c s).env = s.env :=
  raiseFault_env c (encode i) s
@[simp] theorem raiseIn_surfW (i : Instr) (c : FaultCode) (s : State) : (raiseIn i c s).surfW = s.surfW :=
  raiseFault_surfW c (encode i) s
@[simp] theorem raiseIn_surfH (i : Instr) (c : FaultCode) (s : State) : (raiseIn i c s).surfH = s.surfH :=
  raiseFault_surfH c (encode i) s

/-- `t` has the port log of `s` with transactions added whose PixelWrites come in scan order, on the surface of `s`. -/
def AddsInScanOrder (s t : State) : Prop :=
  ∃ es : List PortEvent, t.env.portLog = s.env.portLog ++ es ∧ PaintsInScanOrder s.surfW s.surfH es

theorem addsInScanOrder_of_env_eq {s t : State} (h : t.env = s.env) : AddsInScanOrder s t :=
  ⟨[], by simp [h], by simp [PaintsInScanOrder]⟩

/-- Both bodies scan once after the acquire; only the granted one ends with a release (R190, R194). -/
theorem endFillBody_addsInScanOrder (ok : Bool) (s : State) : AddsInScanOrder s (endFillBody ok s) := by
  cases ok with
  | true =>
    refine ⟨.acquire s.surfaceAnswer :: (scanEvents true (surfaceAcquire s) ++ [.release]), ?_, ?_⟩
    · simp [endFillBody, scanEvents, surfaceAcquire_portLog]
    · simpa [PaintsInScanOrder] using scanEvents_paintsInScanOrder true (surfaceAcquire s)
  | false =>
    refine ⟨.acquire s.surfaceAnswer :: scanEvents false (raiseIn .endFill .surface (surfaceAcquire s)), ?_, ?_⟩
    · simp [endFillBody, scanEvents, surfaceAcquire_portLog]
    · simpa [PaintsInScanOrder] using
        scanEvents_paintsInScanOrder false (raiseIn .endFill .surface (surfaceAcquire s))

/-- An END_FILL that fails its state check issues nothing; any other issues what its body does. -/
theorem execEndFill_addsInScanOrder (s : State) : NextHas (AddsInScanOrder s) (execEndFill s) := by
  have hbody := endFillBody_addsInScanOrder s.surfaceAnswer (rampIfDirty s)
  refine nextHas_ite ?fault ?body
  case fault => exact (nextHas_next ..).2 (addsInScanOrder_of_env_eq (raiseIn_env ..))
  case body => exact (nextHas_next ..).2 (by simpa [AddsInScanOrder] using hbody)

/-- Settles O43: what an END_FILL paints is a sublist of the grid it scans, which is in scan order. -/
theorem pixelWritesInScanOrder : Obligations.PixelWritesInScanOrder := by
  unfold Obligations.PixelWritesInScanOrder
  exact execEndFill_addsInScanOrder

end Sys2Proof.Machine
end

section
/-! The fixed-point procedures (40_fixed_point.md R121, R123): the laws of FloorDivMod, and Ceil as the least of the
integers that reach its operand. Then the theorems that settle O17 and O20. -/

namespace Sys2Proof.Machine

/-! ### FloorDivMod (R121) -/

theorem floorDivMod_reconstruct (n d : Int) : (floorDivMod n d).1 * d + (floorDivMod n d).2 = n :=
  Int.ediv_mul_add_emod n d

theorem floorDivMod_rem_nonneg (n : Int) {d : Int} (hd : 0 < d) : 0 ≤ (floorDivMod n d).2 :=
  Int.emod_nonneg n hd.ne'

theorem floorDivMod_rem_lt (n : Int) {d : Int} (hd : 0 < d) : (floorDivMod n d).2 < d :=
  Int.emod_lt_of_pos n hd

/-- The quotient is the greatest of the integers whose multiple of `d` does not pass `n`. -/
theorem le_floorDivMod_quot_iff (n q : Int) {d : Int} (hd : 0 < d) : q ≤ (floorDivMod n d).1 ↔ q * d ≤ n :=
  Int.le_ediv_iff_mul_le hd

/-- Settles O17, from the four laws of FloorDivMod. -/
theorem floorDivModLaw : Obligations.FloorDivModLaw := by
  unfold Obligations.FloorDivModLaw
  exact fun n d hd => ⟨(floorDivMod_reconstruct n d).symm, floorDivMod_rem_nonneg n hd, floorDivMod_rem_lt n hd,
    fun q => (le_floorDivMod_quot_iff n q hd).symm⟩

/-! ### Ceil (R123) -/

theorem ceilDiv_of_dvd {v : Int} {k : Nat} (h : 2 ^ k ∣ v) : ceilDiv v k = v / 2 ^ k := by
  simp [ceilDiv, Int.emod_eq_zero_of_dvd h]

theorem ceilDiv_of_not_dvd {v : Int} {k : Nat} (h : ¬ 2 ^ k ∣ v) : ceilDiv v k = v / 2 ^ k + 1 := by
  have hrem : v % 2 ^ k ≠ 0 := fun h0 => h (Int.dvd_of_emod_eq_zero h0)
  simp [ceilDiv, hrem]

/-- Where `2 ^ k` does not divide `v`, no multiple of it equals `v`, so reaching `v` is the same as passing it. -/
theorem ceilDiv_le_iff (v : Int) (k : Nat) (c : Int) : ceilDiv v k ≤ c ↔ v ≤ c * 2 ^ k := by
  have hpos : (0 : Int) < 2 ^ k := by positivity
  by_cases hdvd : 2 ^ k ∣ v
  · calc ceilDiv v k ≤ c
      _ ↔ v / 2 ^ k ≤ c := by rw [ceilDiv_of_dvd hdvd]
      _ ↔ v / 2 ^ k * 2 ^ k ≤ c * 2 ^ k := (mul_le_mul_iff_of_pos_right hpos).symm
      _ ↔ v ≤ c * 2 ^ k := by rw [Int.ediv_mul_cancel hdvd]
  · have hne : v ≠ c * 2 ^ k := fun h => hdvd (h ▸ dvd_mul_left _ c)
    calc ceilDiv v k ≤ c
      _ ↔ v / 2 ^ k < c := by rw [ceilDiv_of_not_dvd hdvd, Int.add_one_le_iff]
      _ ↔ v < c * 2 ^ k := Int.ediv_lt_iff_lt_mul hpos
      _ ↔ v ≤ c * 2 ^ k := ⟨le_of_lt, fun hle => lt_of_le_of_ne hle hne⟩

/-- The floored quotient of `n + d - 1` is the least integer whose multiple of `d` reaches `n`; EdgeInit rounds with it
too (R141). -/
theorem ediv_add_pred_le_iff (n c : Int) {d : Int} (hd : 0 < d) : (n + d - 1) / d ≤ c ↔ n ≤ c * d := by
  rw [Int.ediv_le_iff_le_mul hd]
  omega

/-- Both sides have the same integers above them, those that reach `v`. -/
theorem ceilDiv_eq_ediv_add_pred (v : Int) (k : Nat) : ceilDiv v k = (v + 2 ^ k - 1) / 2 ^ k :=
  eq_of_forall_ge_iff fun c => (ceilDiv_le_iff v k c).trans (ediv_add_pred_le_iff v c (by positivity)).symm

/-- Settles O20, from the integers above Ceil and the floor form. -/
theorem ceilIsSmallestInteger : Obligations.CeilIsSmallestInteger := by
  unfold Obligations.CeilIsSmallestInteger
  exact fun v k => ⟨rfl, fun c => (ceilDiv_le_iff v k c).symm, ceilDiv_eq_ediv_add_pred v k⟩

end Sys2Proof.Machine
end

section
/-! The edge stepper (41_edge_stepper.md R141 to R147): the registers of an edge on a row in closed form, and that a step
goes from one row's registers to the next row's. Then the theorem that settles O26. -/

namespace Sys2Proof.Machine

/-! ### The carry of FloorDivMod -/

/-- FloorDivMod of a sum from those of its terms: one conditional subtraction is enough (R144). -/
theorem floorDivMod_add (n m : Int) {d : Int} (hd : 0 < d) :
    floorDivMod (n + m) d =
      if (floorDivMod n d).2 + (floorDivMod m d).2 ≥ d then
        ((floorDivMod n d).1 + (floorDivMod m d).1 + 1, (floorDivMod n d).2 + (floorDivMod m d).2 - d)
      else ((floorDivMod n d).1 + (floorDivMod m d).1, (floorDivMod n d).2 + (floorDivMod m d).2) := by
  have hunique (q r : Int) (hsum : r + d * q = n + m) (h0 : 0 ≤ r) (hlt : r < d) : floorDivMod (n + m) d = (q, r) :=
    Prod.ext_iff.2 ((Int.ediv_emod_unique hd).2 ⟨hsum, h0, hlt⟩)
  have hn := floorDivMod_reconstruct n d
  have hm := floorDivMod_reconstruct m d
  have hn0 := floorDivMod_rem_nonneg n hd
  have hm0 := floorDivMod_rem_nonneg m hd
  have hnd := floorDivMod_rem_lt n hd
  have hmd := floorDivMod_rem_lt m hd
  split
  case isTrue hcarry => exact hunique _ _ (by linear_combination hn + hm) (by omega) (by omega)
  case isFalse hcarry => exact hunique _ _ (by linear_combination hn + hm) (by omega) (by omega)

/-! ### An edge and its rows -/

theorem edgeCoordOk_iff (v : Int) : edgeCoordOk v = true ↔ -32776 ≤ v ∧ v ≤ 32767 := by
  simp [edgeCoordOk]

/-- An edge from the point (x0, y0) down to (x1, y1), with its scale exponent (R140). -/
structure EdgeLine where
  (x0 y0 x1 y1 : Int)
  k : Nat

namespace EdgeLine
variable (l : EdgeLine)

/-- The scale S of R140. -/
def scale : Int := 2 ^ l.k
/-- The first sample row of the edge, `ys` in R141. -/
def top : Int := ceilDiv l.y0 l.k
/-- The row after the edge's last one, `ye` in R141. -/
def bottom : Int := ceilDiv l.y1 l.k
/-- The denominator D of R141. -/
def den : Int := l.scale * (l.y1 - l.y0)
/-- The column of the edge's exact x on row `r`, as a numerator over `den` (R145). -/
def column (r : Int) : Int := l.x0 * (l.y1 - l.y0) + (l.x1 - l.x0) * (r * l.scale - l.y0)
/-- Quotient and remainder that place the edge on row `r`; on the first row, those R141 loads. -/
def place (r : Int) : Int × Int := floorDivMod (l.column r + l.den - 1) l.den
/-- Quotient and remainder of the way from one row to the next (R141). -/
def slope : Int × Int := floorDivMod ((l.x1 - l.x0) * l.scale) l.den

/-- The E_* registers of the edge on row `r`. -/
def regs (r : Int) : EdgeRegs :=
  { x := w32 (l.place r).1, step := w32 l.slope.1, num := w32 l.slope.2, den := w32 l.den, err := w32 (l.place r).2,
    y := w32 r, h := w32 (l.bottom - r) }

/-- The edge has coordinates within R147's limits, runs from top to bottom, and crosses a sample row. -/
structure Crosses : Prop where
  x0_ok : -32776 ≤ l.x0 ∧ l.x0 ≤ 32767
  y0_ok : -32776 ≤ l.y0 ∧ l.y0 ≤ 32767
  x1_ok : -32776 ≤ l.x1 ∧ l.x1 ≤ 32767
  y1_ok : -32776 ≤ l.y1 ∧ l.y1 ≤ 32767
  k_ok : l.k ≤ 4
  ordered : l.y0 ≤ l.y1
  rows : l.top < l.bottom

/-- A row from the first to the one after the last is at or below the edge's top, and less than one row spacing below
its end. -/
theorem row_mem {r : Int} (htop : l.top ≤ r) (hbottom : r ≤ l.bottom) :
    0 ≤ r * l.scale - l.y0 ∧ r * l.scale - l.y1 < l.scale := by
  have hreached : l.y0 ≤ r * l.scale := (ceilDiv_le_iff l.y0 l.k r).1 htop
  have habove : (r - 1) * l.scale < l.y1 :=
    not_le.1 fun hle => (sub_one_lt r).not_ge (hbottom.trans ((ceilDiv_le_iff l.y1 l.k (r - 1)).2 hle))
  constructor <;> linarith

/-- The numerator of the place on row ys + j, as R145 writes it. -/
theorem place_top_add (j : Int) :
    l.place (l.top + j) =
      floorDivMod (l.x0 * (l.y1 - l.y0) + (l.x1 - l.x0) * (l.top * l.scale - l.y0) + l.den - 1 +
        j * (l.x1 - l.x0) * l.scale) l.den := by
  rw [place, column]
  congr 1
  ring

variable {l} (hl : l.Crosses)
include hl

/-- EdgeInit loads the registers of the edge's first row. -/
theorem Crosses.edgeInit_eq_regs_top : (edgeInit l.x0 l.y0 l.x1 l.y1 l.k).1 = l.regs l.top := by
  have hrows : ¬ ceilDiv l.y1 l.k - ceilDiv l.y0 l.k ≤ 0 := not_le.2 (sub_pos.2 hl.rows)
  rw [edgeInit, if_neg (not_lt.2 hl.ordered), edgeLoad, if_neg hrows]
  rfl

/-! ### The bounds of R147 -/

theorem Crosses.height_pos : l.y0 < l.y1 :=
  lt_of_le_of_ne hl.ordered fun heq => hl.rows.ne (congrArg (ceilDiv · l.k) heq)

theorem Crosses.scale_mem : 1 ≤ l.scale ∧ l.scale ≤ 16 :=
  ⟨one_le_pow₀ (by norm_num), pow_le_pow_right₀ (by norm_num : (1 : Int) ≤ 2) hl.k_ok⟩

theorem Crosses.den_pos : 0 < l.den :=
  mul_pos (by linarith [hl.scale_mem]) (sub_pos.2 hl.height_pos)

theorem Crosses.den_le : l.den ≤ 1048688 := by
  obtain ⟨hS1, hS16⟩ := hl.scale_mem
  have hdY : l.y1 - l.y0 ≤ 65543 := by linarith [hl.y0_ok, hl.y1_ok]
  calc l.den ≤ 16 * 65543 := mul_le_mul hS16 hdY (sub_nonneg.2 hl.ordered) (by norm_num)
    _ = 1048688 := by norm_num

theorem Crosses.top_ge : -32776 ≤ l.top := by
  have hS := hl.scale_mem.1
  have hy := hl.y0_ok.1
  by_contra hlt
  have hreach : l.y0 ≤ -32777 * l.scale := (ceilDiv_le_iff l.y0 l.k (-32777)).1 (by rw [top] at hlt; omega)
  omega

theorem Crosses.bottom_le : l.bottom ≤ 32776 := by
  refine (ceilDiv_le_iff l.y1 l.k 32776).2 ?_
  have hS : 1 ≤ (2 : Int) ^ l.k := hl.scale_mem.1
  linarith [hl.y1_ok]

section
variable {r : Int} (htop : l.top ≤ r) (hbottom : r ≤ l.bottom)
include htop hbottom

/-- Down to the edge's end its x stays between those of its ends; beyond, it moves by less than S times its width. -/
theorem Crosses.column_mem : -65536 * l.den ≤ l.column r ∧ l.column r ≤ 65536 * l.den := by
  obtain ⟨hS1, hS16⟩ := hl.scale_mem
  obtain ⟨hpre, hpast⟩ := l.row_mem htop hbottom
  obtain ⟨hx0l, hx0u⟩ := hl.x0_ok
  obtain ⟨hx1l, hx1u⟩ := hl.x1_ok
  have hdY := hl.height_pos
  by_cases hend : r * l.scale ≤ l.y1
  · have hbetween : l.column r = l.x0 * (l.y1 - r * l.scale) + l.x1 * (r * l.scale - l.y0) := by
      rw [column]; ring
    rw [hbetween, den]
    constructor <;> nlinarith
  · have hbeyond : l.column r = l.x1 * (l.y1 - l.y0) + (l.x1 - l.x0) * (r * l.scale - l.y1) := by
      rw [column]; ring
    have hwidth : 65543 * (r * l.scale - l.y1) ≤ 65543 * ((l.scale - 1) * (l.y1 - l.y0)) := by nlinarith
    rw [hbeyond, den]
    constructor <;> nlinarith

theorem Crosses.place_fst_mem : -65536 ≤ (l.place r).1 ∧ (l.place r).1 ≤ 65536 := by
  have hD := hl.den_pos
  obtain ⟨hlow, hupp⟩ := hl.column_mem htop hbottom
  exact ⟨(le_floorDivMod_quot_iff _ _ hD).2 (by linarith), (ediv_add_pred_le_iff _ _ hD).2 hupp⟩

/-! ### What the registers read as: each value is in the range of s32 (R30) -/

theorem Crosses.regs_x : s32 (l.regs r).x = (l.place r).1 := by
  have hx := hl.place_fst_mem htop hbottom
  exact s32_w32 (by linarith) (by linarith)

theorem Crosses.regs_y : s32 (l.regs r).y = r := by
  have hfirst := hl.top_ge
  have hlast := hl.bottom_le
  exact s32_w32 (by linarith) (by linarith)

theorem Crosses.regs_h : s32 (l.regs r).h = l.bottom - r := by
  have hfirst := hl.top_ge
  have hlast := hl.bottom_le
  exact s32_w32 (by linarith) (by linarith)

end

/-- A remainder by D is below 2^21, so the register that holds it reads as it. -/
theorem Crosses.s32_w32_rem (n : Int) : s32 (w32 (floorDivMod n l.den).2) = (floorDivMod n l.den).2 := by
  have h0 := floorDivMod_rem_nonneg n hl.den_pos
  have hlt := floorDivMod_rem_lt n hl.den_pos
  have hD := hl.den_le
  exact s32_w32 (by linarith) (by linarith)

theorem Crosses.regs_err (r : Int) : s32 (l.regs r).err = (l.place r).2 := hl.s32_w32_rem _

theorem Crosses.regs_num (r : Int) : s32 (l.regs r).num = l.slope.2 := hl.s32_w32_rem _

theorem Crosses.regs_den (r : Int) : s32 (l.regs r).den = l.den := by
  have hpos := hl.den_pos
  have hle := hl.den_le
  exact s32_w32 (by linarith) (by linarith)

theorem Crosses.slope_fst_mem : -65543 ≤ l.slope.1 ∧ l.slope.1 ≤ 65543 := by
  have hS := hl.scale_mem.1
  have hdY := hl.height_pos
  have hmul : l.scale ≤ l.den := by rw [den]; nlinarith
  obtain ⟨hx0l, hx0u⟩ := hl.x0_ok
  obtain ⟨hx1l, hx1u⟩ := hl.x1_ok
  exact ⟨(le_floorDivMod_quot_iff _ _ hl.den_pos).2 (by nlinarith), Int.ediv_le_of_le_mul hl.den_pos (by nlinarith)⟩

theorem Crosses.regs_step (r : Int) : s32 (l.regs r).step = l.slope.1 := by
  have hstep := hl.slope_fst_mem
  exact s32_w32 (by linarith) (by linarith)

/-! ### The walk down the rows -/

/-- The place on the next row adds the slope to the place on this one. -/
theorem Crosses.place_succ (r : Int) :
    l.place (r + 1) =
      if (l.place r).2 + l.slope.2 ≥ l.den then
        ((l.place r).1 + l.slope.1 + 1, (l.place r).2 + l.slope.2 - l.den)
      else ((l.place r).1 + l.slope.1, (l.place r).2 + l.slope.2) := by
  have hcolumn : l.column (r + 1) + l.den - 1 = (l.column r + l.den - 1) + (l.x1 - l.x0) * l.scale := by
    simp only [column]; ring
  rw [place, hcolumn]
  exact floorDivMod_add _ _ hl.den_pos

/-- EdgeStep goes from the registers of a row to those of the next one. -/
theorem Crosses.edgeStep_regs {r : Int} (htop : l.top ≤ r) (hbottom : r < l.bottom) :
    (edgeStep (l.regs r)).1 = l.regs (r + 1) := by
  have hh := hl.regs_h htop hbottom.le
  rw [edgeStep_rows _ (by omega), hl.regs_err, hl.regs_num, hl.regs_den, hl.regs_step, hh,
    hl.regs_x htop hbottom.le, hl.regs_y htop hbottom.le, regs, regs, hl.place_succ, ← sub_sub]
  split <;> rfl

/-- After j steps the edge is on row ys + j. -/
theorem Crosses.walkEnd_eq_regs (j : Nat) (hj : (j : Int) ≤ l.bottom - l.top) :
    walkEnd j (l.regs l.top) = l.regs (l.top + j) := by
  induction j with
  | zero => simp [walkEnd]
  | succ j ih =>
    push_cast at hj
    rw [walkEnd_succ, ih (by omega), hl.edgeStep_regs (by omega) (by omega)]
    push_cast
    rw [add_assoc]

/-! ### Exactness -/

/-- The column of row `r` is the least sample column at or right of the edge's exact x (R145). -/
theorem Crosses.place_fst_le_iff (r c : Int) : (l.place r).1 ≤ c ↔ l.column r ≤ c * l.den :=
  ediv_add_pred_le_iff _ _ hl.den_pos

end EdgeLine

/-- Settles O26: after j steps the registers are those of row ys + j, whose place is the quotient and remainder that
round the edge's x on that row up. -/
theorem edgeWalkIsExact : Obligations.EdgeWalkIsExact := by
  unfold Obligations.EdgeWalkIsExact
  intro x0 y0 x1 y1 k j hx0 hy0 hx1 hy1 hk hle hrows hj e ys a
  rw [edgeCoordOk_iff] at hx0 hy0 hx1 hy1
  let l : EdgeLine := ⟨x0, y0, x1, y1, k⟩
  have hl : l.Crosses := ⟨hx0, hy0, hx1, hy1, hk, hle, sub_pos.1 hrows⟩
  have hwalk : e = l.regs (ys + j) :=
    (congrArg (walkEnd j) (hl.edgeInit_eq_regs_top)).trans (hl.walkEnd_eq_regs j hj)
  have htop : l.top ≤ ys + j := le_add_of_nonneg_right (Int.natCast_nonneg j)
  have hbottom : ys + j ≤ l.bottom := le_sub_iff_add_le'.1 hj
  have hplace : l.place (ys + j) = floorDivMod (a + j * (x1 - x0) * 2 ^ k) l.den := l.place_top_add j
  rw [hwalk, hl.regs_x htop hbottom, hl.regs_y htop hbottom, hl.regs_h htop hbottom, hl.regs_den, hl.regs_err]
  refine ⟨edgeInit_swap x0 y0 x1 y1 k hl.height_pos, rfl, (sub_sub _ _ _).symm, rfl, ?split, ?err_nonneg, ?err_lt,
    ?floor, fun c => ?least⟩
  case split => rw [hplace]; exact floorDivMod_reconstruct _ _
  case err_nonneg => exact floorDivMod_rem_nonneg _ hl.den_pos
  case err_lt => exact floorDivMod_rem_lt _ hl.den_pos
  case floor => rw [hplace]; rfl
  case least => rw [mul_assoc]; exact hl.place_fst_le_iff (ys + j) c

end Sys2Proof.Machine
end

section
/-! That END_FILL drains the flag buffer (43_scan_coverage.md R192, R193, R198): the box covers the surface, so the scan
visits the whole buffer and clears every entry. Then the theorem that settles O42. -/

namespace Sys2Proof.Machine

/-! ### The scanned range (R192) -/

theorem clampIndex_of_nonpos {v : Int} (h : v ≤ 0) (n : Nat) : clampIndex v n = 0 := by
  unfold clampIndex; omega

theorem clampIndex_of_le {v : Int} {n : Nat} (h : (n : Int) ≤ v) : clampIndex v n = n := by
  unfold clampIndex; omega

/-- A box from 0 or less to 16 * n or more is scanned from index 0 to the guard index n. -/
theorem indexRange_of_covers {lo hi : Int} {n : Nat} (hlo : lo ≤ 0) (hhi : 16 * (n : Int) ≤ hi) :
    indexRange (clampIndex (lo / 16) n) (clampIndex (ceilDiv hi 4) n) = List.range (n + 1) := by
  have hlast : (n : Int) ≤ ceilDiv hi 4 := by rw [ceilDiv_eq_ediv_add_pred]; omega
  rw [clampIndex_of_nonpos (by omega), clampIndex_of_le hlast, indexRange, Nat.sub_zero, List.range_eq_range']

/-! ### A scan of the whole buffer -/

theorem Memory.read_of_not_listed {m : Memory} {a : Nat} (h : ∀ c ∈ m, c.1 ≠ a) : Memory.read m a = 0 := by
  induction m with
  | nil => rfl
  | cons c m ih =>
    rw [Memory.read, if_neg (h c List.mem_cons_self)]
    exact ih fun d hd => h d (List.mem_cons_of_mem c hd)

/-- A key is that of the row and the column that are its two halves. -/
theorem fbKey_div_mod (a : Nat) : fbKey (a / 2 ^ 32) (a % 2 ^ 32) = a := Nat.div_add_mod' a (2 ^ 32)

/-- A scan of the rows 0..h and the columns 0..w leaves nothing of a buffer that lies within them. -/
theorem scanAll_drains (ok : Bool) (s : State) {w h : Nat} {m : Memory} (hwf : Memory.wf m = true)
    (hin : ∀ c ∈ m, c.1 / 2 ^ 32 ≤ h ∧ c.1 % 2 ^ 32 ≤ w) :
    (scanAll ok s (List.range (w + 1)) (List.range (h + 1)) m).1 = [] := by
  refine Memory.eq_nil_of_read (scanAll_wf ok s _ _ m hwf) fun a => ?_
  rw [scanAll_read ok s _ _ m hwf a]
  split
  case isTrue => rfl
  case isFalse hskipped =>
    refine Memory.read_of_not_listed fun c hc hca => hskipped ?_
    obtain ⟨hrow, hcol⟩ := hca ▸ hin c hc
    exact ⟨a / 2 ^ 32, List.mem_range.2 (Nat.lt_succ_of_le hrow), a % 2 ^ 32,
      List.mem_range.2 (Nat.lt_succ_of_le hcol), (fbKey_div_mod a).symm⟩

/-! ### The states whose buffer a scan drains -/

/-- What the scan needs of a state: the box covers the surface (R34), and the buffer has its canonical form with no
entry outside (R66). -/
structure Drainable (s : State) : Prop where
  minX : s32 s.bbox.minX ≤ 0
  minY : s32 s.bbox.minY ≤ 0
  maxX : 16 * (u32 s.surfW : Int) ≤ s32 s.bbox.maxX
  maxY : 16 * (u32 s.surfH : Int) ≤ s32 s.bbox.maxY
  fb_wf : Memory.wf s.fb = true
  fb_inside : ∀ c ∈ s.fb, c.1 / 2 ^ 32 ≤ u32 s.surfH ∧ c.1 % 2 ^ 32 ≤ u32 s.surfW

theorem State.Inv.drainable {s : State} (hinv : s.Inv) (hbound : s.status.state ≠ .unbound) : Drainable s := by
  obtain ⟨hminX, hminY, hmaxX, hmaxY⟩ := hinv.bbox_covers hbound
  exact ⟨hminX, hminY, hmaxX, hmaxY, hinv.fb_wf, hinv.fb_inside⟩

/-- Only the box, the size of the surface and the buffer matter. -/
theorem Drainable.of_eq {s t : State} (hd : Drainable s) (hbox : t.bbox = s.bbox) (hw : t.surfW = s.surfW)
    (hh : t.surfH = s.surfH) (hfb : t.fb = s.fb) : Drainable t := by
  obtain ⟨hminX, hminY, hmaxX, hmaxY, hwf, hin⟩ := hd
  constructor <;> simpa only [hbox, hw, hh, hfb]

theorem Drainable.scanRows_eq {s : State} (hd : Drainable s) : scanRows s = List.range (u32 s.surfH + 1) :=
  indexRange_of_covers hd.minY hd.maxY

theorem Drainable.scanCols_eq {s : State} (hd : Drainable s) : scanCols s = List.range (u32 s.surfW + 1) :=
  indexRange_of_covers hd.minX hd.maxX

theorem Drainable.scan_fb_eq_nil {s : State} (hd : Drainable s) (ok : Bool) : (scan ok s).fb = [] := by
  rw [scan_fb, hd.scanRows_eq, hd.scanCols_eq]
  exact scanAll_drains ok s hd.fb_wf hd.fb_inside

/-! ### END_FILL -/

@[simp] theorem raiseIn_bbox (i : Instr) (c : FaultCode) (s : State) : (raiseIn i c s).bbox = s.bbox :=
  raiseFault_bbox c (encode i) s
@[simp] theorem raiseIn_fb (i : Instr) (c : FaultCode) (s : State) : (raiseIn i c s).fb = s.fb :=
  raiseFault_fb c (encode i) s

/-- The scan drains the buffer with the surface granted and with it refused (R190, R194). -/
theorem Drainable.endFillBody_fb_eq_nil {s : State} (hd : Drainable s) (ok : Bool) : (endFillBody ok s).fb = [] := by
  have hacquired : Drainable (surfaceAcquire s) := hd.of_eq rfl rfl rfl rfl
  cases ok with
  | true => exact hacquired.scan_fb_eq_nil true
  | false =>
    have hrecorded : Drainable (raiseIn .endFill .surface (surfaceAcquire s)) :=
      hacquired.of_eq (raiseIn_bbox ..) (raiseIn_surfW ..) (raiseIn_surfH ..) (raiseIn_fb ..)
    exact hrecorded.scan_fb_eq_nil false

/-- END_FILL past its state check: the lazy ramp, the body, and IDLE (R190). -/
theorem exec_endFill_of_fillingClosed {s : State} (hstate : s.status.state = .filling)
    (hclosed : s.status.pathOpen = false) :
    exec .endFill s = .next ((endFillBody s.surfaceAnswer (rampIfDirty s)).setContext .idle) :=
  if_neg (by simp [State.fillingClosed, hstate, hclosed])

/-- Settles O42: the invariant makes the state drainable, and the lazy ramp, the acquire and the fault keep it so up to
the scan. -/
theorem endFillDrainsBuffer : Obligations.EndFillDrainsBuffer := by
  unfold Obligations.EndFillDrainsBuffer
  intro s t hinv hstate hclosed hexec r c
  have hd : Drainable (rampIfDirty s) :=
    (hinv.drainable (by simp [hstate])).of_eq (rampIfDirty_bbox s) (rampIfDirty_surfW s) (rampIfDirty_surfH s)
      (rampIfDirty_fb s)
  rw [exec_endFill_of_fillingClosed hstate hclosed] at hexec
  obtain rfl := Host.Outcome.next.inj hexec
  have hfb : ((endFillBody s.surfaceAnswer (rampIfDirty s)).setContext .idle).fb = [] := hd.endFillBody_fb_eq_nil _
  rw [State.fbRead, hfb, Memory.read_nil]

end Sys2Proof.Machine
end

section
/-! The colour ramp (43_scan_coverage.md R196): a colour word and its lanes, and the interpolation, which stays a lane
and meets the two colours at its ends. Then the theorem that settles O45. -/

namespace Sys2Proof.Machine

/-! ### Colour words and lanes (R31) -/

theorem lane_le (w : Word) (j : Nat) : lane w j ≤ 255 := Nat.le_of_lt_succ (w.extractLsb' (8 * j) 8).isLt

/-- A word is determined by its four lanes: bit k is bit k % 8 of lane k / 8. -/
theorem word_eq_of_lane_eq {v w : Word} (h : ∀ j : Fin 4, lane v j = lane w j) : v = w := by
  refine BitVec.eq_of_getLsbD_eq fun k hk => ?_
  have hlane : v.extractLsb' (8 * (k / 8)) 8 = w.extractLsb' (8 * (k / 8)) 8 :=
    BitVec.eq_of_toNat_eq (h ⟨k / 8, by omega⟩)
  have hbit : k % 8 < 8 := Nat.mod_lt k (by decide)
  simpa [BitVec.getLsbD_extractLsb', hbit, Nat.div_add_mod] using congrArg (·.getLsbD (k % 8)) hlane

/-- A byte is its own lane 0. The index is that of lane 0. -/
theorem byte_lane_zero (b : Byte) : b.extractLsb' (8 * 0) 8 = b := BitVec.extractLsb'_eq_self

/-- Lane 0 of a word is the last one appended. -/
theorem append_lane_zero {n : Nat} (x : BitVec n) (b : Byte) : (x ++ b).extractLsb' (8 * 0) 8 = b :=
  BitVec.extractLsb'_append_eq_right

/-- The lanes above lane 0 are those of the word it was appended to. -/
theorem append_lane_succ {n : Nat} (x : BitVec n) (b : Byte) (j : Nat) :
    (x ++ b).extractLsb' (8 * (j + 1)) 8 = x.extractLsb' (8 * j) 8 :=
  BitVec.extractLsb'_append_eq_of_le (Nat.le_mul_of_pos_right 8 j.succ_pos)

/-- A word that is put together from four lanes has those lanes. -/
theorem lane_laneWord (l : Nat → Nat) (j : Fin 4) (h : l j < 256) :
    lane (laneWord (l 3) (l 2) (l 1) (l 0)) j = l j := by
  have hfield : (laneWord (l 3) (l 2) (l 1) (l 0)).extractLsb' (8 * j) 8 = BitVec.ofNat 8 (l j) := by
    fin_cases j <;> simp only [laneWord, append_lane_succ, append_lane_zero, byte_lane_zero]
  rw [lane, hfield, BitVec.toNat_ofNat, Nat.mod_eq_of_lt h]

/-! ### The interpolation (R196) -/

/-- The weights 8 - i and i of an entry sum to 8, so a rounded interpolation of two lanes is a lane. -/
theorem rampLane_lt (stroke fill : Word) {i : Nat} (hi : i ≤ 8) (j : Nat) : rampLane stroke fill i j < 256 := by
  have hstroke : lane stroke j * (8 - i) ≤ 255 * (8 - i) := Nat.mul_le_mul_right _ (lane_le stroke j)
  have hfill : lane fill j * i ≤ 255 * i := Nat.mul_le_mul_right _ (lane_le fill j)
  unfold rampLane
  omega

theorem rampLane_zero (stroke fill : Word) (j : Nat) : rampLane stroke fill 0 j = lane stroke j := by
  unfold rampLane; omega

theorem rampLane_eight (stroke fill : Word) (j : Nat) : rampLane stroke fill 8 j = lane fill j := by
  unfold rampLane; omega

theorem lane_rampEntry (stroke fill : Word) {i : Nat} (hi : i ≤ 8) (j : Fin 4) :
    lane (rampEntry stroke fill i) j = rampLane stroke fill i j :=
  lane_laneWord (rampLane stroke fill i) j (rampLane_lt stroke fill hi j)

theorem rampEntry_zero (stroke fill : Word) : rampEntry stroke fill 0 = stroke :=
  word_eq_of_lane_eq fun j => by rw [lane_rampEntry _ _ (Nat.zero_le 8), rampLane_zero]

theorem rampEntry_eight (stroke fill : Word) : rampEntry stroke fill 8 = fill :=
  word_eq_of_lane_eq fun j => by rw [lane_rampEntry _ _ le_rfl, rampLane_eight]

theorem rampOf_get (stroke fill : Word) (i : Fin 9) : (rampOf stroke fill).get i = rampEntry stroke fill i := by
  fin_cases i <;> rfl

/-- Settles O45: the entries of the ramp have the interpolated lanes, and those of the two ends are the colours' own. -/
theorem rampUpdateInterpolates : Obligations.RampUpdateInterpolates := by
  unfold Obligations.RampUpdateInterpolates
  intro s
  refine ⟨rampOf s.strokeColor s.fillColor, rfl, fun i j => ?lanes, ?first, ?last⟩
  case lanes => rw [rampOf_get]; exact lane_rampEntry _ _ (Nat.le_of_lt_succ i.isLt) j
  case first => rw [rampOf_get]; exact rampEntry_zero _ _
  case last => rw [rampOf_get]; exact rampEntry_eight _ _

end Sys2Proof.Machine
end

section
/-! INIT of a legal size (44_context.md R211 to R213): what its size check accepts, the seeded box as a product of words,
and the state it completes in. Then the theorem that settles O47. -/

namespace Sys2Proof.Machine

/-- INIT's size check bounds both operands, read unsigned (R211). -/
theorem State.sizeOk_iff (s : State) :
    s.sizeOk = true ↔
      (1 ≤ u32 s.args.arg0 ∧ u32 s.args.arg0 ≤ s.cfg.maxW) ∧ 1 ≤ u32 s.args.arg1 ∧ u32 s.args.arg1 ≤ s.cfg.maxH := by
  simp only [State.sizeOk, Bool.and_eq_true, decide_eq_true_eq, and_assoc]
  rfl

/-- The product that seeds the box, cut to a word, is the product of the words. -/
theorem w32_sixteen_mul_u32 (v : Word) : w32 (16 * (u32 v : Int)) = 16#32 * v := by
  rw [w32, BitVec.ofInt_mul, u32, BitVec.ofInt_natCast, BitVec.ofNat_toNat, BitVec.setWidth_eq, BitVec.ofInt_ofNat]

/-- The box of a surface of any size: each bound is 16 times the size (R213). -/
theorem seedBBox_eq (s : State) :
    seedBBox s = { s with bbox := { minX := 0, minY := 0, maxX := 16#32 * s.surfW, maxY := 16#32 * s.surfH } } := by
  rw [seedBBox, w32_sixteen_mul_u32, w32_sixteen_mul_u32, State.setBBox]

/-- INIT past its two checks: the size, the zeroed buffer, and InitEffects (R211). -/
theorem exec_init_of_sizeOk {s : State} (hstate : s.status.state = .unbound) (hsize : s.sizeOk = true) :
    exec .init s = .next (initEffects (zeroFb ((s.setSurfW s.args.arg0).setSurfH s.args.arg1))) :=
  (if_neg (not_not_intro hstate)).trans (if_neg (by simp [hsize]))

/-- Settles O47: the legal operands pass the size check, and the buffer that INIT leaves lists no entry. -/
theorem initBindsSurface : Obligations.InitBindsSurface := by
  unfold Obligations.InitBindsSurface
  intro s hstate hw hmaxW hh hmaxH
  have hsize : s.sizeOk = true := s.sizeOk_iff.2 ⟨⟨hw, hmaxW⟩, hh, hmaxH⟩
  refine ⟨[], Memory.read_nil, ?_⟩
  rw [exec_init_of_sizeOk hstate hsize, initEffects, seedBBox_eq]
  rfl

end Sys2Proof.Machine
end

section
/-! The decoder and the encoder (30_encoding.md R90 to R97): a row of the opcode map selects a command exactly from the
modifiers R92 allows, and the command's own word has that row's opcode and that modifier. Then the theorems that settle
O1, O2 and O3. -/

namespace Sys2Proof.Machine

/-! ### The fields of a command word (R90) -/

theorem toNat_opField (w : Word) : (opField w).toNat = w.toNat / 2 ^ 24 := by
  have hw := w.isLt
  rw [opField, BitVec.extractLsb'_toNat, Nat.shiftRight_eq_div_pow]
  omega

theorem toNat_zField (w : Word) : (zField w).toNat = w.toNat / 2 ^ 8 % 2 ^ 16 := by
  rw [zField, BitVec.extractLsb'_toNat, Nat.shiftRight_eq_div_pow]

theorem toNat_modField (w : Word) : (modField w).toNat = w.toNat % 2 ^ 8 := by
  rw [modField, BitVec.extractLsb'_toNat, Nat.shiftRight_zero]

/-- A word is its three fields, the opcode first. -/
theorem word_eq_fields (w : Word) : w = opField w ++ zField w ++ modField w := by
  refine BitVec.eq_of_toNat_eq ?_
  have hz := (zField w).isLt
  have hm := (modField w).isLt
  rw [BitVec.toNat_append, BitVec.toNat_append, ← Nat.shiftLeft_add_eq_or_of_lt hm, ← Nat.shiftLeft_add_eq_or_of_lt hz,
    Nat.shiftLeft_eq, Nat.shiftLeft_eq, toNat_opField, toNat_zField, toNat_modField]
  omega

/-- A word whose reserved field is 0 is assembled from its opcode and its modifier. -/
theorem word_eq_cmdWord {w : Word} (hz : zField w = 0) : w = cmdWord (opField w) (modField w) := by
  rw [cmdWord, ← BitVec.ofNat_eq_ofNat, ← hz]
  exact word_eq_fields w

/-! ### What the opcode map says (R92, R94) -/

/-- The legal modifiers of an opcode of the map (R92). -/
def LegalMod (op m : Nat) : Prop :=
  if op = 0x03 then m < 2 else if op = 0x21 then m < 16 else if op = 0x23 then m < 5 else m = 0

/-- A row of the map accepts a modifier that is within the row's mask and selects a well-formed command. -/
def RowAccepts (mask : Byte) (build : Byte → Instr) (m : Byte) : Prop :=
  m &&& ~~~mask = 0 ∧ (build m).wf = true

/-- The row of `op` accepts the modifiers R92 allows, and each command it selects has the word with that opcode and
that modifier. -/
def RowIsFor (op mask : Byte) (build : Byte → Instr) : Prop :=
  ∀ m : Byte, (RowAccepts mask build m ↔ LegalMod op.toNat m.toNat) ∧
    (RowAccepts mask build m → encode (build m) = cmdWord op m)

/-- The row of a command without a modifier. -/
theorem rowIsFor_plain {op : Byte} {i : Instr} (hlegal : LegalMod op.toNat = (· = 0)) (hwf : i.wf = true)
    (hword : encode i = cmdWord op 0) : RowIsFor op 0x00#8 fun _ => i := by
  intro m
  have hzero : RowAccepts 0x00#8 (fun _ => i) m ↔ m = 0 := by
    rw [RowAccepts, BitVec.not_zero, BitVec.and_allOnes, and_iff_left hwf]
  rw [hzero, hlegal]
  exact ⟨(BitVec.toNat_inj (y := 0#8)).symm, by rintro rfl; exact hword⟩

theorem rowIsFor_setMode : RowIsFor 0x03#8 0x01#8 fun m => .setMode (m.getLsbD 0) := by
  unfold RowIsFor RowAccepts LegalMod; decide

theorem rowIsFor_ceil : RowIsFor 0x21#8 0x0F#8 fun m => .ceil (m.extractLsb' 0 4) := by
  unfold RowIsFor RowAccepts LegalMod; decide

theorem rowIsFor_edgeInit : RowIsFor 0x23#8 0x07#8 fun m => .edgeInit (m.extractLsb' 0 3) := by
  unfold RowIsFor RowAccepts LegalMod; decide

/-- Every row of the map is the one R92 and R94 give its opcode. -/
theorem rowIsFor_of_opRow {op mask : Byte} {build : Byte → Instr} (h : opRow op = some (mask, build)) :
    RowIsFor op mask build := by
  unfold opRow at h
  split at h <;> cases h
  case h_4 => exact rowIsFor_setMode
  case h_16 => exact rowIsFor_ceil
  case h_18 => exact rowIsFor_edgeInit
  all_goals exact rowIsFor_plain rfl rfl rfl

/-- The opcodes that are not in the map (R96). -/
theorem opRow_eq_none_iff (op : Byte) : opRow op = none ↔
    (0x08 ≤ op.toNat ∧ op.toNat ≤ 0x0F) ∨ (0x16 ≤ op.toNat ∧ op.toNat ≤ 0x1F) ∨ 0x25 ≤ op.toNat := by
  revert op; decide

/-! ### The decoder (R91) -/

/-- A word decodes to the command that its row selects, where its reserved field is 0 and the row accepts its
modifier. -/
theorem decode_eq_ok_iff (w : Word) (i : Instr) : decode w = .ok i ↔
    ∃ mask build, opRow (opField w) = some (mask, build) ∧ zField w = 0 ∧ RowAccepts mask build (modField w) ∧
      build (modField w) = i := by
  unfold decode RowAccepts
  cases opRow (opField w) with
  | none => simp
  | some row =>
    obtain ⟨mask, build⟩ := row
    simp only [Option.some.injEq, Prod.mk.injEq]
    split_ifs <;> simp_all

/-- A word decodes where its opcode has a row, its reserved field is 0, and its modifier is legal. -/
theorem exists_decode_eq_ok_iff (w : Word) : (∃ i, decode w = .ok i) ↔
    opRow (opField w) ≠ none ∧ zField w = 0 ∧ LegalMod (opField w).toNat (modField w).toNat := by
  constructor
  · rintro ⟨i, hi⟩
    obtain ⟨mask, build, hrow, hz, haccepts, -⟩ := (decode_eq_ok_iff w i).1 hi
    exact ⟨by simp [hrow], hz, (rowIsFor_of_opRow hrow _).1.1 haccepts⟩
  · rintro ⟨hne, hz, hlegal⟩
    obtain ⟨⟨mask, build⟩, hrow⟩ := Option.ne_none_iff_exists'.1 hne
    exact ⟨_, (decode_eq_ok_iff w _).2 ⟨mask, build, hrow, hz, (rowIsFor_of_opRow hrow _).1.2 hlegal, rfl⟩⟩

theorem exists_decode_eq_error_iff (w : Word) : (∃ e, decode w = .error e) ↔ ¬ ∃ i, decode w = .ok i := by
  cases decode w <;> simp

/-- The fields of every command's word (R90, R94). -/
theorem encodeFields (i : Instr) : Laws.EncodeFields.Statement i := by
  cases i with
  | nop => exact Laws.EncodeFields.nop
  | init => exact Laws.EncodeFields.init
  | deinit => exact Laws.EncodeFields.deinit
  | setMode aa => exact Laws.EncodeFields.setMode aa
  | setFill => exact Laws.EncodeFields.setFill
  | setStroke => exact Laws.EncodeFields.setStroke
  | rampUpdate => exact Laws.EncodeFields.rampUpdate
  | clrErr => exact Laws.EncodeFields.clrErr
  | beginFill => exact Laws.EncodeFields.beginFill
  | pathMove => exact Laws.EncodeFields.pathMove
  | pathLine => exact Laws.EncodeFields.pathLine
  | pathClose => exact Laws.EncodeFields.pathClose
  | edgeDraw => exact Laws.EncodeFields.edgeDraw
  | endFill => exact Laws.EncodeFields.endFill
  | fdivmod => exact Laws.EncodeFields.fdivmod
  | ceil k => exact Laws.EncodeFields.ceil k
  | popcnt => exact Laws.EncodeFields.popcnt
  | edgeInit k => exact Laws.EncodeFields.edgeInit k
  | edgeStep => exact Laws.EncodeFields.edgeStep

theorem decode_encode {i : Instr} (hwf : i.wf = true) : decode (encode i) = .ok i := by
  obtain ⟨hz, mask, build, hrow, hmask, hbuild⟩ := encodeFields i
  exact (decode_eq_ok_iff _ i).2 ⟨mask, build, hrow, hz, ⟨hmask, by rwa [hbuild]⟩, hbuild⟩

/-- A word that decodes to a command is that command's encoding, and the command is well formed. -/
theorem wf_and_encode_of_decode {w : Word} {i : Instr} (h : decode w = .ok i) : i.wf = true ∧ encode i = w := by
  obtain ⟨mask, build, hrow, hz, haccepts, rfl⟩ := (decode_eq_ok_iff w i).1 h
  exact ⟨haccepts.2, ((rowIsFor_of_opRow hrow _).2 haccepts).trans (word_eq_cmdWord hz).symm⟩

/-- Settles O1: what decodes is its command's word, and every well-formed command's word decodes to it. -/
theorem decodeInvertsEncode : Obligations.DecodeInvertsEncode := by
  unfold Obligations.DecodeInvertsEncode
  exact fun w i => ⟨wf_and_encode_of_decode, fun ⟨hwf, hw⟩ => hw ▸ decode_encode hwf⟩

/-- The modifiers that are not legal, as R92 lists them. -/
theorem not_legalMod_iff (op m : Nat) : ¬ LegalMod op m ↔
    (if op = 0x03 then 2 ≤ m else if op = 0x21 then 16 ≤ m else if op = 0x23 then 5 ≤ m else m ≠ 0) := by
  unfold LegalMod
  split_ifs <;> omega

/-- Settles O2: a word is illegal for the lack of a row, for its reserved field, or for its modifier. -/
theorem illegalWordsAreRejected : Obligations.IllegalWordsAreRejected := by
  unfold Obligations.IllegalWordsAreRejected
  intro w
  have hz : zField w = 0 ↔ w.toNat / 2 ^ 8 % 2 ^ 16 = 0 := by
    rw [← toNat_zField]
    exact (BitVec.toNat_inj (y := 0#16)).symm
  rw [exists_decode_eq_error_iff, exists_decode_eq_ok_iff, not_and_or, not_and_or, not_not, hz, opRow_eq_none_iff,
    toNat_opField, toNat_modField, not_legalMod_iff, or_assoc, or_assoc]

/-- Settles O3: each word is its command's encoding. -/
theorem sampleWordsDecode : Obligations.SampleWordsDecode := by
  unfold Obligations.SampleWordsDecode
  exact ⟨decode_encode (i := .nop) rfl, decode_encode (i := .setMode true) rfl, decode_encode (i := .beginFill) rfl,
    decode_encode (i := .endFill) rfl, decode_encode (i := .ceil 4) rfl, decode_encode (i := .edgeInit 1) rfl,
    decode_encode (i := .edgeStep) rfl⟩

end Sys2Proof.Machine
end

section
/-! The bus and reset (20_memory.md R60 to R65, 70_reset_and_hazards.md R270): a step by the access it serves, what each
offset of the register map holds, and the values after a reset. Then the theorems that settle O4 to O9 and O11 to
O16. -/

namespace Sys2Proof.Machine

/-! ### A step by the thing it serves -/

section
variable {s : State} {rest : List HostOp} {off : Nat} (hoff : off < 0x100) (halign : off % 4 = 0)
include hoff halign

theorem step_write {w : Word} (h : s.env.pending = .access (.write 32 (s.cfg.base + off) w) :: rest) :
    step s = busWrite off w (s.tookOp rest) := by
  rw [step_pending s _ rest h, serveOp, busAccess, setPending_cfg, windowOffset_inside s.cfg off hoff halign]
  rfl

theorem step_read (h : s.env.pending = .access (.read 32 (s.cfg.base + off)) :: rest) :
    step s = .next (returnRead (busRead off (s.tookOp rest)) (s.tookOp rest)) := by
  rw [step_pending s _ rest h, serveOp, busAccess, setPending_cfg, windowOffset_inside s.cfg off hoff halign]
  rfl

theorem step_untilRead {body : List BusAccess} {v : Word}
    (h : s.env.pending = .untilRead body (s.cfg.base + off) v :: rest) :
    step s = .next (returnRead (busRead off s) (setPending
      (if busRead off s = v then rest else body.map .access ++ .untilRead body (s.cfg.base + off) v :: rest) s)) := by
  rw [step_pending s _ rest h, serveOp, windowOffset_inside s.cfg off hoff halign]

end

/-- A step that serves an undefined access is refused by name (R62, R63). -/
theorem step_refused {s : State} {rest : List HostOp} {bits addr : Nat} {w : Word} {e : Refusal}
    (h : s.env.pending = .access (.read bits addr) :: rest ∨ s.env.pending = .access (.write bits addr w) :: rest)
    (hoff : windowOffset s.cfg bits addr = .error e) : step s = .refused e := by
  rcases h with h | h
  · rw [step_pending s _ rest h, serveOp, busAccess, setPending_cfg, hoff]
  · rw [step_pending s _ rest h, serveOp, busAccess, setPending_cfg, hoff]

/-! ### The register map (R21) -/

/-- The register at an offset has that offset. -/
theorem regOffset_of_regAt {off : Nat} {r : RegName} (h : regAt off = some r) : regOffset r = off := by
  unfold regAt at h
  split at h <;> cases h <;> rfl

/-- A write to an offset of neither CMD nor an operand register is ignored (R61). -/
theorem busWrite_ignored {off : Nat} (hcmd : off ≠ 0x08) (h0 : off ≠ 0x0C) (h1 : off ≠ 0x10) (h2 : off ≠ 0x14)
    (h3 : off ≠ 0x18) (w : Word) (s : State) : busWrite off w s = .next s := by
  unfold busWrite
  split
  case h_1 h => exact absurd (regOffset_of_regAt h).symm hcmd
  case h_2 h => exact absurd (regOffset_of_regAt h).symm h0
  case h_3 h => exact absurd (regOffset_of_regAt h).symm h1
  case h_4 h => exact absurd (regOffset_of_regAt h).symm h2
  case h_5 h => exact absurd (regOffset_of_regAt h).symm h3
  case h_6 => rfl

/-- No register depends on the outside world. -/
theorem busRead_tookOp (off : Nat) (s : State) (rest : List HostOp) : busRead off (s.tookOp rest) = busRead off s := by
  unfold busRead
  cases regAt off with
  | none => rfl
  | some r => cases r <;> rfl

theorem busRead_reserved {off : Nat} (h : 0xA4 ≤ off) (s : State) : busRead off s = 0 := by
  rw [busRead, regAt_reserved off h]

theorem busRead_ramp (i : Fin 9) (s : State) : busRead (0x80 + 4 * i.val) s = s.ramp.get i := by
  have h := regAt_regOffset (.ramp i)
  rw [regOffset] at h
  rw [busRead, h]
  rfl

/-! ### The bus -/

/-- Settles O4: a write to CMD runs the word. -/
theorem stepRunsDecodedCommand : Obligations.StepRunsDecodedCommand := by
  unfold Obligations.StepRunsDecodedCommand
  intro s rest w i hpending hdecode
  rw [step_write (by decide) (by decide) hpending]
  exact runCommand_ok w i _ hdecode

/-- Settles O5: a write to CMD runs the word, and one that does not decode only records its fault. -/
theorem illegalCommandIsRecorded : Obligations.IllegalCommandIsRecorded := by
  unfold Obligations.IllegalCommandIsRecorded
  intro s rest w e hpending hdecode
  rw [step_write (by decide) (by decide) hpending]
  exact runCommand_error w e _ hdecode

/-- Settles O6: a write to each operand register stores there. -/
theorem stepWritesArgument : Obligations.StepWritesArgument := by
  unfold Obligations.StepWritesArgument
  intro s rest off w hpending
  refine ⟨?_, ?_, ?_, ?_⟩ <;> rintro rfl <;> rw [step_write (by decide) (by decide) hpending] <;> rfl

/-- Settles O7: taking the access from the host's list changes no register. -/
theorem stepReadsRegister : Obligations.StepReadsRegister := by
  unfold Obligations.StepReadsRegister
  intro s rest off hpending hoff halign
  rw [step_read hoff halign hpending, busRead_tookOp]
  rfl

/-- Settles O8: the map's registers one by one, the fields of PERM, the ramp, and the reserved offsets. -/
theorem registerMapReads : Obligations.RegisterMapReads := by
  unfold Obligations.RegisterMapReads
  intro s
  refine ⟨rfl, rfl, rfl, rfl, rfl, rfl, rfl, rfl, rfl, rfl, rfl, rfl, rfl, rfl, rfl, rfl, rfl, rfl, rfl, rfl, rfl, rfl,
    rfl, rfl, rfl, rfl, rfl, rfl, rfl, rfl, rfl, fun k => ⟨?_, ?_⟩, fun i => busRead_ramp i s,
    fun off h _ => busRead_reserved h s⟩
  · rw [busRead_perm, permWord_field]
  · rw [busRead_perm, permWord_gap]

/-- The flags of STATUS are single bits above STATE; the bit above ERR is reserved (R22). -/
theorem statusWord_flags (v : Status) : (statusWord v).getLsbD 2 = v.pathOpen ∧ (statusWord v).getLsbD 3 = v.aa ∧
    (statusWord v).getLsbD 4 = v.rampDirty ∧ (statusWord v).getLsbD 5 = v.clip ∧ (statusWord v).getLsbD 6 = v.err ∧
    (statusWord v).getLsbD 7 = false := by
  simp only [statusWord, BitVec.getLsbD_append]
  simp

theorem statusWord_state (v : Status) : (statusWord v).extractLsb' 0 2 = stateCode v.state :=
  BitVec.extractLsb'_append_eq_right

theorem statusWord_errCode (v : Status) : (statusWord v).extractLsb' 8 4 = faultCode v.errCode := by
  simp (disch := omega) only [statusWord, BitVec.extractLsb'_append_eq_of_le]
  exact BitVec.extractLsb'_append_eq_right

theorem statusWord_reserved (v : Status) : (statusWord v).extractLsb' 12 20 = 0 := by
  simp (disch := omega) only [statusWord, BitVec.extractLsb'_append_eq_of_le]
  rfl

theorem busRead_status (s : State) : busRead 0x04 s = statusWord s.status := rfl

/-- Settles O9, from where each field lies in the word. -/
theorem statusRegisterFields : Obligations.StatusRegisterFields := by
  unfold Obligations.StatusRegisterFields
  intro s
  obtain ⟨hopen, haa, hdirty, hclip, herr, hgap⟩ := statusWord_flags s.status
  rw [busRead_status, statusWord_state, statusWord_errCode, statusWord_reserved]
  refine ⟨?_, hopen, haa, hdirty, hclip, herr, hgap, ?_, rfl⟩
  · cases s.status.state <;> rfl
  · cases s.status.errCode <;> rfl

/-- Settles O11: no register lies at a reserved offset. -/
theorem reservedOffsets : Obligations.ReservedOffsets := by
  unfold Obligations.ReservedOffsets
  intro s rest off w hlow hhigh halign
  refine ⟨fun hpending => ?_, fun hpending => ?_⟩
  · rw [step_read (by omega) halign hpending, busRead_reserved hlow]
    rfl
  · rw [step_write (by omega) halign hpending,
      busWrite_ignored (by omega) (by omega) (by omega) (by omega) (by omega)]

/-- Settles O12: CMD and the operand registers have the only offsets that a write acts on. -/
theorem readOnlyWritesAreIgnored : Obligations.ReadOnlyWritesAreIgnored := by
  unfold Obligations.ReadOnlyWritesAreIgnored
  intro s rest off w hoff halign hcmd h0 h1 h2 h3 hpending
  rw [step_write hoff halign hpending, busWrite_ignored hcmd h0 h1 h2 h3]

/-- Settles O13, by the three checks of an access in their order. -/
theorem undefinedAccessesAreRefused : Obligations.UndefinedAccessesAreRefused := by
  unfold Obligations.UndefinedAccessesAreRefused
  intro s rest bits addr w hpending
  refine ⟨fun hbits => step_refused hpending ?_, fun hbits hwindow => step_refused hpending ?_,
    fun hbits hlow hhigh halign => step_refused hpending ?_⟩
  · rw [windowOffset, if_pos hbits]
  · rw [windowOffset, if_neg (not_not_intro hbits), if_pos hwindow]
  · rw [windowOffset, if_neg (not_not_intro hbits), if_neg (by omega), if_pos halign]

/-- Settles O14: the end of a loop is one read. -/
theorem loopRepeatsUntilValue : Obligations.LoopRepeatsUntilValue := by
  unfold Obligations.LoopRepeatsUntilValue
  intro s rest body off v hoff halign hpending
  exact step_untilRead hoff halign hpending

/-! ### Reset (R270) -/

/-- After a reset every register but the constant ones and STATUS reads 0. -/
theorem reg_resetWith (c : Config) (e : Env) {r : RegName} (hid : r ≠ .id) (hstatus : r ≠ .status) (hcaps : r ≠ .caps)
    (hperm : r ≠ .perm) : (State.resetWith c e).reg r = 0 := by
  cases r with
  | id => exact absurd rfl hid
  | status => exact absurd rfl hstatus
  | caps => exact absurd rfl hcaps
  | perm => exact absurd rfl hperm
  | ramp i => simp [State.reg, State.resetWith]
  | _ => rfl

theorem busRead_resetWith (c : Config) (e : Env) {k : Nat} (hid : k ≠ 0) (hstatus : k ≠ 1) (hcaps : k ≠ 30)
    (hperm : k ≠ 31) : busRead (4 * k) (State.resetWith c e) = 0 := by
  unfold busRead
  cases h : regAt (4 * k) with
  | none => rfl
  | some r =>
    have hoff := regOffset_of_regAt h
    refine reg_resetWith c e ?_ ?_ ?_ ?_ <;> rintro rfl <;> rw [regOffset] at hoff <;> omega

theorem busRead_status_resetWith (c : Config) (e : Env) : busRead 0x04 (State.resetWith c e) = 0x00000010#32 :=
  (by decide : statusWord Status.reset = 0x00000010#32)

/-- Settles O15, from the reset values in every configuration. -/
theorem resetRegisterValues : Obligations.ResetRegisterValues := by
  unfold Obligations.ResetRegisterValues
  exact ⟨rfl, busRead_status_resetWith _ _, capsWord_reference, permWord_reference,
    fun k _ h0 h1 h30 h31 => busRead_resetWith _ _ h0 h1 h30 h31⟩

/-- Settles O16, from the reset values in every configuration. -/
theorem hardwareResetEffect : Obligations.HardwareResetEffect := by
  unfold Obligations.HardwareResetEffect
  intro s rest hpending
  exact ⟨hardwareReset (setPending rest s), step_pending s _ rest hpending, rfl, rfl, busRead_status_resetWith _ _,
    fun k _ h0 h1 h30 h31 => busRead_resetWith _ _ h0 h1 h30 h31, rfl⟩

end Sys2Proof.Machine
end

section
/-! What a command can do, said once: it records the fault of its first failing check and does nothing else (R242 to
R244), or it has its effect; and what each effect leaves unchanged. Then the theorems that settle O53 to O57, about all
commands at once. -/

namespace Sys2Proof.Machine

/-! ### Checks and effects -/

/-- The fault of a command's operands, if any: R91 for a scale exponent that no word has, then R93, R120 and R211. -/
def operandFault (i : Instr) (s : State) : Option FaultCode :=
  match i with
  | .init => if s.sizeOk then none else some .alloc
  | .pathMove => if s.coords2Ok then none else some .range
  | .pathLine => if s.coords2Ok then none else some .range
  | .edgeDraw => if s.coords4Ok then none else some .range
  | .fdivmod => if 0 < s.sArg1 then none else some .domain
  | .edgeInit k => if edgeScaleOk k then if s.coords4Ok then none else some .range else some .illegal
  | _ => none

/-- The fault of a command's first failing check: its legality comes before its operands (R244). -/
def checkFault (i : Instr) (s : State) : Option FaultCode :=
  if legalIn i s.status.state s.status.pathOpen then operandFault i s else some .seq

/-- The state a command leaves once its checks have passed. -/
def effect (i : Instr) (s : State) : State :=
  match i with
  | .nop => s
  | .init => initEffects (zeroFb ((s.setSurfW s.args.arg0).setSurfH s.args.arg1))
  | .deinit => deinitEffects s
  | .setMode aa => s.setAa aa
  | .setFill =>
    (s.setRampDirty (s.status.rampDirty || decide (s.args.arg0 ≠ s.fillColor))).setFillColor s.args.arg0
  | .setStroke =>
    (s.setRampDirty (s.status.rampDirty || decide (s.args.arg0 ≠ s.strokeColor))).setStrokeColor s.args.arg0
  | .rampUpdate => rampUpdate s
  | .clrErr => clearFault s
  | .beginFill => (((seedBBox s).setPathOpen false).setPath { s.path with n := 0 }).setContext .filling
  | .pathMove =>
    ((growBBox s.sArg0 s.sArg1 s).setPath
      { n := 1, fx := w32 s.sArg0, fy := w32 s.sArg1, px := w32 s.sArg0, py := w32 s.sArg1 }).setPathOpen true
  | .pathLine =>
    (drawEdge (s32 s.path.px) (s32 s.path.py) s.sArg0 s.sArg1 (growBBox s.sArg0 s.sArg1 s)).setPath
      { s.path with px := w32 s.sArg0, py := w32 s.sArg1, n := nextPathN s.path.n }
  | .pathClose =>
    if u32 s.path.n < 2 then raiseFault .degenerate (encode .pathClose) (s.setPathOpen false)
    else (drawEdge (s32 s.path.px) (s32 s.path.py) (s32 s.path.fx) (s32 s.path.fy) s).setPathOpen false
  | .edgeDraw =>
    drawEdge s.sArg0 s.sArg1 s.sArg2 s.sArg3 (growBBox s.sArg2 s.sArg3 (growBBox s.sArg0 s.sArg1 s))
  | .endFill => (endFillBody s.surfaceAnswer (rampIfDirty s)).setContext .idle
  | .fdivmod =>
    (s.setRes0 (w32 (floorDivMod s.sArg0 s.sArg1).1)).setRes1 (w32 (floorDivMod s.sArg0 s.sArg1).2)
  | .ceil k => s.setRes0 (w32 (ceilDiv s.sArg0 k.toNat))
  | .popcnt => s.setRes0 (w32 (popcount s.args.arg0))
  | .edgeInit k =>
    (s.setEdge (edgeInit s.sArg0 s.sArg1 s.sArg2 s.sArg3 k.toNat).1).setRes0
      (w32 (edgeInit s.sArg0 s.sArg1 s.sArg2 s.sArg3 k.toNat).2)
  | .edgeStep => (s.setEdge (edgeStep s.edge).1).setRes0 (w32 (edgeStep s.edge).2)

/-- What a command leaves: the record of the fault of its checks, or its effect. -/
def answer (i : Instr) (s : State) : Option FaultCode → State
  | some c => raiseFault c (encode i) s
  | none => effect i s

/-- A check in front of the rest of a command. -/
theorem checked_eq {p q : Prop} [Decidable p] [Decidable q] {i : Instr} {c : FaultCode} {s : State}
    {o : Host.Outcome State Fault Refusal} {f : Option FaultCode} (hfails : p ↔ ¬ q) (ho : o = .next (answer i s f)) :
    (if p then .next (raiseIn i c s) else o) = .next (answer i s (if q then f else some c)) := by
  by_cases hq : q
  · rw [if_neg (hfails.not.2 (not_not_intro hq)), if_pos hq, ho]
  · rw [if_pos (hfails.2 hq), if_neg hq]
    rfl

/-- Every command answers a next state: the record of the fault of its first failing check, or its effect. -/
theorem exec_eq (i : Instr) (s : State) : exec i s = .next (answer i s (checkFault i s)) := by
  cases i with
  | nop | setFill | setStroke | rampUpdate | clrErr | ceil | popcnt | edgeStep => rfl
  | deinit => exact checked_eq (by simp [legalIn]) rfl
  | setMode aa => exact checked_eq (by simp [legalIn]) rfl
  | beginFill => exact checked_eq (by simp [legalIn]) rfl
  | endFill => exact checked_eq (by simp [legalIn, State.fillingClosed]) rfl
  | fdivmod => exact checked_eq not_lt.symm rfl
  | init => exact checked_eq (by simp [legalIn]) (checked_eq (by simp) rfl)
  | pathMove => exact checked_eq (by simp [legalIn, State.fillingClosed]) (checked_eq (by simp) rfl)
  | pathLine => exact checked_eq (by simp [legalIn, State.fillingOpen]) (checked_eq (by simp) rfl)
  | edgeDraw => exact checked_eq (by simp [legalIn]) (checked_eq (by simp) rfl)
  | edgeInit k => exact checked_eq (by simp) (checked_eq (by simp) rfl)
  | pathClose =>
    refine checked_eq (by simp [legalIn, State.fillingOpen]) ?_
    simp only [operandFault, answer, effect]
    split <;> rfl

theorem exec_of_fault {i : Instr} {s : State} {c : FaultCode} (h : checkFault i s = some c) :
    exec i s = .next (afterFault c (encode i) s) := by
  rw [exec_eq, h]; rfl

theorem exec_of_checked {i : Instr} {s : State} (h : checkFault i s = none) : exec i s = .next (effect i s) := by
  rw [exec_eq, h]; rfl

/-- What a command answers is the record of the fault its checks found, or its effect. -/
theorem exec_next_cases {i : Instr} {s t : State} (h : exec i s = .next t) :
    (∃ c, checkFault i s = some c ∧ t = raiseFault c (encode i) s) ∨ (checkFault i s = none ∧ t = effect i s) := by
  rw [exec_eq] at h
  obtain rfl := Host.Outcome.next.inj h
  cases hc : checkFault i s with
  | some c => exact .inl ⟨c, rfl, rfl⟩
  | none => exact .inr ⟨rfl, rfl⟩

/-! ### Which faults the checks find (R243, R244) -/

theorem checkFault_of_legal {i : Instr} {s : State} (h : legalIn i s.status.state s.status.pathOpen = true) :
    checkFault i s = operandFault i s := if_pos h

theorem checkFault_of_not_legal {i : Instr} {s : State} (h : legalIn i s.status.state s.status.pathOpen = false) :
    checkFault i s = some .seq := if_neg (by simp [h])

theorem legalIn_of_checked {i : Instr} {s : State} (h : checkFault i s = none) :
    legalIn i s.status.state s.status.pathOpen = true := by
  by_contra hnot
  simp [checkFault_of_not_legal (Bool.eq_false_iff.2 hnot)] at h

/-- No operand check raises the code 0 of no fault, nor SEQ. -/
theorem operandFault_code {i : Instr} {s : State} {c : FaultCode} (h : operandFault i s = some c) :
    c ≠ .none ∧ c ≠ .seq := by
  cases i <;> simp only [operandFault, reduceCtorEq] at h <;> split_ifs at h <;> cases h <;> decide

theorem checkFault_ne_none {i : Instr} {s : State} {c : FaultCode} (h : checkFault i s = some c) : c ≠ .none := by
  unfold checkFault at h
  split at h
  · exact (operandFault_code h).1
  · cases h; decide

theorem raiseFault_of_err {s : State} (h : s.status.err = true) (c : FaultCode) (w : Word) : raiseFault c w s = s :=
  if_pos h

theorem raiseFault_of_no_err {s : State} (h : s.status.err = false) (c : FaultCode) (w : Word) :
    raiseFault c w s = (s.setStatus { s.status with err := true, errCode := c }).setErrCmd w :=
  if_neg (by simp [h])

/-! ### What the longer effects leave unchanged -/

section
variable (x0 y0 x1 y1 : Int) (s : State)

@[simp] theorem drawEdge_status : (drawEdge x0 y0 x1 y1 s).status =
    { s.status with clip := s.status.clip || (edgeSamples s.status.aa x0 y0 x1 y1).any (toggleClipped s) } := by
  rw [drawEdge, toggles_eq]; rfl
@[simp] theorem drawEdge_args : (drawEdge x0 y0 x1 y1 s).args = s.args := by rw [drawEdge, toggles_eq]; rfl
@[simp] theorem drawEdge_res0 : (drawEdge x0 y0 x1 y1 s).res0 = s.res0 := by rw [drawEdge, toggles_eq]; rfl
@[simp] theorem drawEdge_res1 : (drawEdge x0 y0 x1 y1 s).res1 = s.res1 := by rw [drawEdge, toggles_eq]; rfl
@[simp] theorem drawEdge_errCmd : (drawEdge x0 y0 x1 y1 s).errCmd = s.errCmd := by rw [drawEdge, toggles_eq]; rfl
@[simp] theorem drawEdge_fillColor : (drawEdge x0 y0 x1 y1 s).fillColor = s.fillColor := by
  rw [drawEdge, toggles_eq]; rfl
@[simp] theorem drawEdge_strokeColor : (drawEdge x0 y0 x1 y1 s).strokeColor = s.strokeColor := by
  rw [drawEdge, toggles_eq]; rfl
@[simp] theorem drawEdge_surfW : (drawEdge x0 y0 x1 y1 s).surfW = s.surfW := by rw [drawEdge, toggles_eq]; rfl
@[simp] theorem drawEdge_surfH : (drawEdge x0 y0 x1 y1 s).surfH = s.surfH := by rw [drawEdge, toggles_eq]; rfl
@[simp] theorem drawEdge_bbox : (drawEdge x0 y0 x1 y1 s).bbox = s.bbox := by rw [drawEdge, toggles_eq]; rfl
@[simp] theorem drawEdge_path : (drawEdge x0 y0 x1 y1 s).path = s.path := by rw [drawEdge, toggles_eq]; rfl
@[simp] theorem drawEdge_ramp : (drawEdge x0 y0 x1 y1 s).ramp = s.ramp := by rw [drawEdge, toggles_eq]; rfl

end

/-- Recording a fault and writing PATH_OPEN touch different fields. -/
theorem raiseFault_setPathOpen (c : FaultCode) (w : Word) (s : State) (v : Bool) :
    raiseFault c w (s.setPathOpen v) = (raiseFault c w s).setPathOpen v := by
  cases h : s.status.err
  · rw [raiseFault_of_no_err h, raiseFault_of_no_err (by simpa using h)]; rfl
  · rw [raiseFault_of_err h, raiseFault_of_err (by simpa using h)]

/-- Recording a fault and asking the surface touch different fields. -/
theorem raiseFault_surfaceAcquire (c : FaultCode) (w : Word) (s : State) :
    raiseFault c w (surfaceAcquire s) = surfaceAcquire (raiseFault c w s) := by
  cases h : s.status.err
  · rw [raiseFault_of_no_err h, raiseFault_of_no_err (by simpa using h)]; rfl
  · rw [raiseFault_of_err h, raiseFault_of_err (by simpa using h)]

theorem endFillBody_granted (s : State) : endFillBody true s = emit [.release] (scan true (surfaceAcquire s)) := rfl

/-- With the surface refused, END_FILL records SURFACE, asks, and scans without painting (R194). -/
theorem endFillBody_refused (s : State) :
    endFillBody false s = scan false (surfaceAcquire (raiseFault .surface (encode .endFill) s)) :=
  congrArg (scan false) (raiseFault_surfaceAcquire ..)

section
variable (ok : Bool) (s : State)

theorem endFillBody_status : (endFillBody ok s).status =
    if ok then s.status else (raiseFault .surface (encode .endFill) s).status := by
  cases ok <;> simp [endFillBody_granted, endFillBody_refused]
theorem endFillBody_errCmd : (endFillBody ok s).errCmd =
    if ok then s.errCmd else (raiseFault .surface (encode .endFill) s).errCmd := by
  cases ok <;> simp [endFillBody_granted, endFillBody_refused]
@[simp] theorem endFillBody_args : (endFillBody ok s).args = s.args := by
  cases ok <;> simp [endFillBody_granted, endFillBody_refused]
@[simp] theorem endFillBody_res0 : (endFillBody ok s).res0 = s.res0 := by
  cases ok <;> simp [endFillBody_granted, endFillBody_refused]
@[simp] theorem endFillBody_res1 : (endFillBody ok s).res1 = s.res1 := by
  cases ok <;> simp [endFillBody_granted, endFillBody_refused]
@[simp] theorem endFillBody_fillColor : (endFillBody ok s).fillColor = s.fillColor := by
  cases ok <;> simp [endFillBody_granted, endFillBody_refused]
@[simp] theorem endFillBody_strokeColor : (endFillBody ok s).strokeColor = s.strokeColor := by
  cases ok <;> simp [endFillBody_granted, endFillBody_refused]
@[simp] theorem endFillBody_surfW : (endFillBody ok s).surfW = s.surfW := by
  cases ok <;> simp [endFillBody_granted, endFillBody_refused]
@[simp] theorem endFillBody_surfH : (endFillBody ok s).surfH = s.surfH := by
  cases ok <;> simp [endFillBody_granted, endFillBody_refused]
@[simp] theorem endFillBody_bbox : (endFillBody ok s).bbox = s.bbox := by
  cases ok <;> simp [endFillBody_granted, endFillBody_refused]
@[simp] theorem endFillBody_edge : (endFillBody ok s).edge = s.edge := by
  cases ok <;> simp [endFillBody_granted, endFillBody_refused]
@[simp] theorem endFillBody_path : (endFillBody ok s).path = s.path := by
  cases ok <;> simp [endFillBody_granted, endFillBody_refused]
@[simp] theorem endFillBody_ramp : (endFillBody ok s).ramp = s.ramp := by
  cases ok <;> simp [endFillBody_granted, endFillBody_refused]

end

/-- The lazy recomputation of the ramp in terms of the fields it writes (R197). -/
theorem rampIfDirty_eq (s : State) : rampIfDirty s = { s with
    status := { s.status with rampDirty := s.status.rampDirty && !s.status.aa }
    ramp := if s.status.aa && s.status.rampDirty then rampOf s.strokeColor s.fillColor else s.ramp } := by
  rcases s with ⟨_, ⟨_, _, aa, dirty, _, _, _⟩, _⟩
  cases aa <;> cases dirty <;> rfl

@[simp] theorem rampIfDirty_status (s : State) :
    (rampIfDirty s).status = { s.status with rampDirty := s.status.rampDirty && !s.status.aa } := by
  rw [rampIfDirty_eq]

/-! ### The effects on each register -/

section
variable (i : Instr) (s : State)

/-- The lifecycle of R23. -/
theorem effect_state : (effect i s).status.state =
    match i with
    | .init => .idle
    | .deinit => .unbound
    | .beginFill => .filling
    | .endFill => .idle
    | _ => s.status.state := by
  cases i with
  | pathClose => simp only [effect]; split <;> simp [raiseFault_setPathOpen, apply_ite Status.state]
  | _ => simp [effect, initEffects, deinitEffects]

theorem effect_aa : (effect i s).status.aa = match i with | .setMode a => a | _ => s.status.aa := by
  cases i with
  | pathClose => simp only [effect]; split <;> simp [raiseFault_setPathOpen, apply_ite Status.aa]
  | endFill => simp [effect, endFillBody_status, apply_ite Status.aa]
  | _ => simp [effect, initEffects, deinitEffects, zeroFb]

theorem effect_args : (effect i s).args = s.args := by
  cases i with
  | pathClose => simp only [effect]; split <;> simp
  | _ => simp [effect, initEffects, deinitEffects, zeroFb]


theorem effect_res1 (hi : i ≠ .fdivmod) : (effect i s).res1 = s.res1 := by
  cases i with
  | fdivmod => exact absurd rfl hi
  | pathClose => simp only [effect]; split <;> simp
  | _ => simp [effect, initEffects, deinitEffects, zeroFb]

/-- The commands that have a result in RES0 (R29). -/
def HasResult (i : Instr) : Prop :=
  i = .fdivmod ∨ i = .popcnt ∨ i = .edgeStep ∨ (∃ k, i = .ceil k) ∨ ∃ k, i = .edgeInit k

theorem effect_res0 (hi : ¬ HasResult i) : (effect i s).res0 = s.res0 := by
  cases i with
  | fdivmod | popcnt | edgeStep | ceil | edgeInit => simp [HasResult] at hi
  | pathClose => simp only [effect]; split <;> simp
  | _ => simp [effect, initEffects, deinitEffects, zeroFb]

theorem effect_fillColor (hi : i ≠ .setFill) : (effect i s).fillColor = s.fillColor := by
  cases i with
  | setFill => exact absurd rfl hi
  | pathClose => simp only [effect]; split <;> simp
  | _ => simp [effect, initEffects, deinitEffects, zeroFb]

theorem effect_strokeColor (hi : i ≠ .setStroke) : (effect i s).strokeColor = s.strokeColor := by
  cases i with
  | setStroke => exact absurd rfl hi
  | pathClose => simp only [effect]; split <;> simp
  | _ => simp [effect, initEffects, deinitEffects, zeroFb]

theorem effect_surface (hinit : i ≠ .init) (hdeinit : i ≠ .deinit) :
    (effect i s).surfW = s.surfW ∧ (effect i s).surfH = s.surfH := by
  cases i with
  | init => exact absurd rfl hinit
  | deinit => exact absurd rfl hdeinit
  | pathClose => simp only [effect]; split <;> simp
  | _ => simp [effect]

theorem effect_ramp (hupdate : i ≠ .rampUpdate) (hend : i ≠ .endFill) : (effect i s).ramp = s.ramp := by
  cases i with
  | rampUpdate => exact absurd rfl hupdate
  | endFill => exact absurd rfl hend
  | pathClose => simp only [effect]; split <;> simp
  | _ => simp [effect, initEffects, deinitEffects, zeroFb]

end

/-! ### The sticky flags and the fault record -/

/-- CLIP and the record of the first fault are sticky (R27, R242). -/
def StickyKept (s t : State) : Prop :=
  (s.status.clip = true → t.status.clip = true) ∧
    (s.status.err = true → t.status.err = true ∧ t.status.errCode = s.status.errCode ∧ t.errCmd = s.errCmd)

theorem raiseFault_sticky (c : FaultCode) (w : Word) (s : State) : StickyKept s (raiseFault c w s) := by
  cases h : s.status.err with
  | false => rw [raiseFault_of_no_err h]; simp [StickyKept, h]
  | true => rw [raiseFault_of_err h]; simp [StickyKept]

theorem endFillBody_sticky (ok : Bool) (s : State) : StickyKept s (endFillBody ok s) := by
  unfold StickyKept
  rw [endFillBody_status, endFillBody_errCmd]
  cases ok with
  | true => simp
  | false => exact raiseFault_sticky .surface (encode .endFill) s

theorem effect_sticky {i : Instr} (hi : i ≠ .clrErr) (s : State) : StickyKept s (effect i s) := by
  cases i with
  | clrErr => exact absurd rfl hi
  | pathClose =>
    simp only [effect]
    split
    · exact raiseFault_sticky _ _ (s.setPathOpen false)
    · simp +contextual [StickyKept]
  | endFill =>
    have hbody := endFillBody_sticky s.surfaceAnswer (rampIfDirty s)
    simpa [StickyKept, effect] using hbody
  | _ => simp +contextual [StickyKept, effect, initEffects, deinitEffects, zeroFb]

/-- The other commands leave the record of the first fault alone. -/
theorem effect_record {i : Instr} (hclear : i ≠ .clrErr) (hclose : i ≠ .pathClose) (hend : i ≠ .endFill) (s : State) :
    (effect i s).status.err = s.status.err ∧ (effect i s).status.errCode = s.status.errCode ∧
      (effect i s).errCmd = s.errCmd := by
  cases i with
  | clrErr => exact absurd rfl hclear
  | pathClose => exact absurd rfl hclose
  | endFill => exact absurd rfl hend
  | _ => simp [effect, initEffects, deinitEffects, zeroFb]

theorem effect_pathClose_of_lt {s : State} (h : u32 s.path.n < 2) :
    effect .pathClose s = raiseFault .degenerate (encode .pathClose) (s.setPathOpen false) := if_pos h

theorem effect_pathClose_of_le {s : State} (h : 2 ≤ u32 s.path.n) : effect .pathClose s =
    (drawEdge (s32 s.path.px) (s32 s.path.py) (s32 s.path.fx) (s32 s.path.fy) s).setPathOpen false :=
  if_neg (not_lt.2 h)

/-- An effect sets ERR in two cases only: a path of too few vertices, and a refused surface (R242). -/
theorem effect_fault {i : Instr} {s : State} (herr : s.status.err = false) (h : (effect i s).status.err = true) :
    (i = .pathClose ∧ effect i s = raiseFault .degenerate (encode i) (s.setPathOpen false)) ∨
      (i = .endFill ∧ (effect i s).status.errCode = .surface ∧ (effect i s).errCmd = encode i) := by
  by_cases hclose : i = .pathClose
  · subst hclose
    rcases lt_or_ge (u32 s.path.n) 2 with hn | hn
    · exact .inl ⟨rfl, effect_pathClose_of_lt hn⟩
    · simp [effect_pathClose_of_le hn, herr] at h
  by_cases hend : i = .endFill
  · subst hend
    have hrefused : s.surfaceAnswer = false := by
      cases hanswer : s.surfaceAnswer with
      | false => rfl
      | true => simp [effect, hanswer, endFillBody_status, herr] at h
    exact .inr ⟨rfl, by simp [effect, hrefused, endFillBody_status, herr],
      by simp [effect, hrefused, endFillBody_errCmd, herr]⟩
  by_cases hclear : i = .clrErr
  · subst hclear
    simp [effect] at h
  · rw [(effect_record hclear hclose hend s).1, herr] at h
    cases h

theorem raiseFault_state (c : FaultCode) (w : Word) (s : State) :
    (raiseFault c w s).status.state = s.status.state := by
  rw [raiseFault_status]; split <;> rfl

theorem raiseFault_aa (c : FaultCode) (w : Word) (s : State) : (raiseFault c w s).status.aa = s.status.aa := by
  rw [raiseFault_status]; split <;> rfl

/-- A recorded code is the new one or the old one (R242). -/
theorem raiseFault_errCode_ne {c d : FaultCode} {s : State} (hc : c ≠ d) (h : s.status.errCode ≠ d) (w : Word) :
    (raiseFault c w s).status.errCode ≠ d := by
  rw [raiseFault_status]
  split
  · exact h
  · exact hc

theorem effect_errCode_ne_seq {s : State} (h : s.status.errCode ≠ .seq) (i : Instr) :
    (effect i s).status.errCode ≠ .seq := by
  by_cases hclose : i = .pathClose
  · subst hclose
    rcases lt_or_ge (u32 s.path.n) 2 with hn | hn
    · rw [effect_pathClose_of_lt hn]
      exact raiseFault_errCode_ne (by decide) (s := s.setPathOpen false) h _
    · simpa [effect_pathClose_of_le hn] using h
  by_cases hend : i = .endFill
  · subst hend
    cases hanswer : s.surfaceAnswer with
    | true => simpa [effect, hanswer, endFillBody_status] using h
    | false =>
      have hcode : (rampIfDirty s).status.errCode ≠ .seq := by simpa using h
      rw [effect, hanswer, endFillBody_refused]
      exact raiseFault_errCode_ne (by decide) hcode (encode .endFill)
  by_cases hclear : i = .clrErr
  · subst hclear
    simp [effect]
  · rwa [(effect_record hclear hclose hend s).2.1]

/-! ### The statements about all commands -/

/-- Settles O53: the legality check comes first, and neither another check nor an effect records SEQ. -/
theorem legalityTable : Obligations.LegalityTable := by
  unfold Obligations.LegalityTable
  intro i s _
  refine ⟨fun hnot => exec_of_fault (checkFault_of_not_legal hnot), fun hlegal hcode => ⟨_, exec_eq i s, ?_⟩⟩
  rw [checkFault_of_legal hlegal]
  cases h : operandFault i s with
  | some c => exact raiseFault_errCode_ne (operandFault_code h).2 hcode _
  | none => exact effect_errCode_ne_seq hcode i

/-- Settles O54: a fault of the checks has a code, and of the effects two record a fault. -/
theorem faultsArePrecise : Obligations.FaultsArePrecise := by
  unfold Obligations.FaultsArePrecise
  intro i s t herr hexec hset
  obtain ⟨c, hc, rfl⟩ | ⟨-, rfl⟩ := exec_next_cases hexec
  · exact .inl ⟨c, checkFault_ne_none hc, rfl⟩
  · rcases effect_fault herr hset with ⟨rfl, hclose⟩ | ⟨rfl, hcode, hcmd⟩
    · exact .inr (.inl ⟨rfl, hclose⟩)
    · exact .inr (.inr ⟨rfl, hcode, hcmd, effect_state .endFill s⟩)

/-- Settles O55: recording a fault keeps what is sticky, and so does every effect but CLR_ERR's. -/
theorem stickyStatusIsKept : Obligations.StickyStatusIsKept := by
  unfold Obligations.StickyStatusIsKept
  intro i s t hexec hi
  obtain ⟨c, -, rfl⟩ | ⟨-, rfl⟩ := exec_next_cases hexec
  · exact raiseFault_sticky c _ s
  · exact effect_sticky hi s

/-- Settles O56: no fault changes STATE, and the legality check has fixed the STATE that an effect changes. -/
theorem contextTransitions : Obligations.ContextTransitions := by
  unfold Obligations.ContextTransitions
  intro i s t hexec hne
  obtain ⟨c, -, rfl⟩ | ⟨hchecked, rfl⟩ := exec_next_cases hexec
  · exact absurd (raiseFault_state c _ s) hne
  · have hlegal := legalIn_of_checked hchecked
    have hstate := effect_state i s
    cases i with
    | init => exact .inl ⟨rfl, by simpa [legalIn] using hlegal, hstate⟩
    | deinit => exact .inr (.inl ⟨rfl, by simpa [legalIn] using hlegal, hstate⟩)
    | beginFill => exact .inr (.inr (.inl ⟨rfl, by simpa [legalIn] using hlegal, hstate⟩))
    | endFill =>
      have hclosed : s.status.state = .filling ∧ s.status.pathOpen = false := by simpa [legalIn] using hlegal
      exact .inr (.inr (.inr ⟨rfl, hclosed.1, hstate⟩))
    | _ => exact absurd hstate hne

/-- Settles O57: a recorded fault changes none of the registers, and an effect changes those of its command. -/
theorem registerWriters : Obligations.RegisterWriters := by
  unfold Obligations.RegisterWriters
  intro i s t hexec
  refine ⟨exec_cfg i s t hexec, ?_⟩
  obtain ⟨c, -, rfl⟩ | ⟨-, rfl⟩ := exec_next_cases hexec
  · rw [raiseFault_aa]
    simp
  · refine ⟨effect_args i s, not_imp_comm.1 (effect_res1 i s), not_imp_comm.1 (effect_res0 i s),
      not_imp_comm.1 (effect_fillColor i s), not_imp_comm.1 (effect_strokeColor i s), fun hne => ?surface,
      fun hne => ?aa, fun hne => ?ramp⟩
    case surface =>
      by_contra hi
      obtain ⟨hinit, hdeinit⟩ := not_or.1 hi
      obtain ⟨hw, hh⟩ := effect_surface i s hinit hdeinit
      exact hne.elim (absurd hw) (absurd hh)
    case aa =>
      have haa := effect_aa i s
      cases i with
      | setMode a => exact ⟨a, rfl⟩
      | _ => exact absurd haa hne
    case ramp =>
      by_contra hi
      obtain ⟨hupdate, hend⟩ := not_or.1 hi
      exact hne (effect_ramp i s hupdate hend)

end Sys2Proof.Machine
end

section
/-! The edge commands (41_edge_stepper.md R141 to R149): the forms that the E_* registers take, their ranges, and the
sample points of an edge in closed form. Then the theorems that settle O23, O25, O27 and O28. -/

namespace Sys2Proof.Machine

/-! ### What EdgeInit loads -/

/-- A range around 0 that holds `v` holds every Ceil of it. -/
theorem ceilDiv_mem {a b v : Int} (k : Nat) (ha : a ≤ 0) (hb : 0 ≤ b) (hav : a ≤ v) (hvb : v ≤ b) :
    a ≤ ceilDiv v k ∧ ceilDiv v k ≤ b := by
  have hS : 1 ≤ (2 : Int) ^ k := one_le_pow₀ (by norm_num)
  constructor
  · by_contra hlt
    have hreach : v ≤ (a - 1) * 2 ^ k := (ceilDiv_le_iff v k (a - 1)).1 (by omega)
    nlinarith
  · exact (ceilDiv_le_iff v k b).2 (by nlinarith)

theorem ceilDiv_mono {v w : Int} (k : Nat) (h : v ≤ w) : ceilDiv v k ≤ ceilDiv w k :=
  (ceilDiv_le_iff v k _).2 (h.trans ((ceilDiv_le_iff w k _).1 le_rfl))

/-- The E_* registers after reset. -/
def zeroEdge : EdgeRegs := { x := 0, step := 0, num := 0, den := 0, err := 0, y := 0, h := 0 }

/-- The E_* registers of an edge that crosses no row, from the point (x, y) given first (R143). -/
def flatEdge (x y : Int) (k : Nat) : EdgeRegs :=
  { x := w32 (ceilDiv x k), step := 0, num := 0, den := 1, err := 0, y := w32 (ceilDiv y k), h := 0 }

/-- Both coordinates of each end, and the scale exponent, are within R147's limits. -/
structure EdgeLine.InRange (l : EdgeLine) : Prop where
  x0_ok : edgeCoordOk l.x0 = true
  y0_ok : edgeCoordOk l.y0 = true
  x1_ok : edgeCoordOk l.x1 = true
  y1_ok : edgeCoordOk l.y1 = true
  k_ok : l.k ≤ 4

/-- The same edge from its other end. -/
def EdgeLine.reverse (l : EdgeLine) : EdgeLine := ⟨l.x1, l.y1, l.x0, l.y0, l.k⟩

theorem EdgeLine.InRange.reverse {l : EdgeLine} (h : l.InRange) : l.reverse.InRange :=
  ⟨h.x1_ok, h.y1_ok, h.x0_ok, h.y0_ok, h.k_ok⟩

/-- EdgeInit of the edge as it is given. -/
def EdgeLine.init (l : EdgeLine) : EdgeRegs × Int := edgeInit l.x0 l.y0 l.x1 l.y1 l.k

theorem EdgeLine.init_reverse {l : EdgeLine} (h : l.y1 < l.y0) : l.init = l.reverse.init :=
  edgeInit_swap l.x1 l.y1 l.x0 l.y0 l.k h

theorem EdgeLine.Crosses.init_eq {l : EdgeLine} (hl : l.Crosses) : l.init = (l.regs l.top, l.bottom - l.top) := by
  have hrows : ¬ ceilDiv l.y1 l.k - ceilDiv l.y0 l.k ≤ 0 := not_le.2 (sub_pos.2 hl.rows)
  rw [init, edgeInit, if_neg (not_lt.2 hl.ordered), edgeLoad, if_neg hrows]
  rfl

theorem EdgeLine.init_of_flat {l : EdgeLine} (hle : l.y0 ≤ l.y1) (hflat : l.bottom ≤ l.top) :
    l.init = (flatEdge l.x0 l.y0 l.k, 0) := by
  have hnone : ceilDiv l.y1 l.k - ceilDiv l.y0 l.k ≤ 0 := sub_nonpos.2 hflat
  rw [init, edgeInit, if_neg (not_lt.2 hle), edgeLoad, if_pos hnone]
  rfl

/-- An edge given top to bottom crosses a sample row or not. -/
theorem EdgeLine.InRange.flat_or_crosses {l : EdgeLine} (h : l.InRange) (hle : l.y0 ≤ l.y1) :
    l.bottom = l.top ∨ l.Crosses := by
  rcases (ceilDiv_mono l.k hle).eq_or_lt with hflat | hrows
  · exact .inl hflat.symm
  · exact .inr ⟨(edgeCoordOk_iff _).1 h.x0_ok, (edgeCoordOk_iff _).1 h.y0_ok, (edgeCoordOk_iff _).1 h.x1_ok,
      (edgeCoordOk_iff _).1 h.y1_ok, h.k_ok, hle, hrows⟩

/-- The registers after j rows of an edge: those of an edge without rows, or those of row ys + j (R145). -/
theorem EdgeLine.InRange.walkEnd_init {l : EdgeLine} (h : l.InRange) (j : Nat) (hj : j ≤ l.init.2.toNat) :
    (l.init.2 = 0 ∧ ∃ x y : Int, edgeCoordOk x = true ∧ edgeCoordOk y = true ∧
      walkEnd j l.init.1 = flatEdge x y l.k) ∨
    ∃ m : EdgeLine, m.Crosses ∧ l.init.2 = m.bottom - m.top ∧ (j : Int) ≤ m.bottom - m.top ∧
      walkEnd j l.init.1 = m.regs (m.top + j) := by
  wlog hle : l.y0 ≤ l.y1 generalizing l with hordered
  · have hlt := not_le.1 hle
    rw [init_reverse hlt] at hj ⊢
    exact hordered h.reverse hj hlt.le
  rcases h.flat_or_crosses hle with hflat | hl
  · rw [init_of_flat hle hflat.le]
    exact .inl ⟨rfl, l.x0, l.y0, h.x0_ok, h.y0_ok, walkEnd_exhausted j _ rfl⟩
  · have hrows := hl.rows
    rw [hl.init_eq] at hj ⊢
    simp only at hj ⊢
    exact .inr ⟨l, hl, rfl, by omega, hl.walkEnd_eq_regs j (by omega)⟩

/-! ### The forms of the E_* registers (R30) -/

theorem edgeLoaded_iff (e : EdgeRegs) : EdgeLoaded e ↔
    e = zeroEdge ∨ ∃ (l : EdgeLine) (j : Nat), l.InRange ∧ j ≤ l.init.2.toNat ∧ e = walkEnd j l.init.1 := by
  constructor
  · rintro (h | ⟨x0, y0, x1, y1, k, j, hx0, hy0, hx1, hy1, hk, hj, h⟩)
    · exact .inl h
    · exact .inr ⟨⟨x0, y0, x1, y1, k⟩, j, ⟨hx0, hy0, hx1, hy1, hk⟩, hj, h⟩
  · rintro (h | ⟨l, j, hl, hj, h⟩)
    · exact .inl h
    · exact .inr ⟨_, _, _, _, _, j, hl.x0_ok, hl.y0_ok, hl.x1_ok, hl.y1_ok, hl.k_ok, hj, h⟩

/-- Zero, an edge without rows, or an edge on one of its rows or past its end. -/
theorem EdgeLoaded.cases {e : EdgeRegs} (he : EdgeLoaded e) :
    e = zeroEdge ∨ (∃ (x y : Int) (k : Nat), edgeCoordOk x = true ∧ edgeCoordOk y = true ∧ e = flatEdge x y k) ∨
      ∃ (l : EdgeLine) (r : Int), l.Crosses ∧ l.top ≤ r ∧ r ≤ l.bottom ∧ e = l.regs r := by
  rcases (edgeLoaded_iff e).1 he with rfl | ⟨l, j, hl, hj, rfl⟩
  · exact .inl rfl
  rcases hl.walkEnd_init j hj with ⟨-, x, y, hx, hy, h⟩ | ⟨m, hm, -, hjm, h⟩
  · exact .inr (.inl ⟨x, y, l.k, hx, hy, h⟩)
  · exact .inr (.inr ⟨m, m.top + j, hm, by omega, by omega, h⟩)

/-- EDGE_INIT and DrawEdge leave a loaded edge. -/
theorem EdgeLine.InRange.edgeLoaded_walkEnd {l : EdgeLine} (h : l.InRange) {j : Nat} (hj : j ≤ l.init.2.toNat) :
    EdgeLoaded (walkEnd j l.init.1) :=
  (edgeLoaded_iff _).2 (.inr ⟨l, j, h, hj, rfl⟩)

/-- EDGE_STEP leaves a loaded edge: past the last row it changes nothing. -/
theorem EdgeLoaded.edgeStep {e : EdgeRegs} (he : EdgeLoaded e) : EdgeLoaded (edgeStep e).1 := by
  by_cases hh : s32 e.h = 0
  · rwa [edgeStep_exhausted e hh]
  rcases (edgeLoaded_iff e).1 he with rfl | ⟨l, j, hl, hj, rfl⟩
  · exact absurd rfl hh
  rw [← walkEnd_succ]
  refine hl.edgeLoaded_walkEnd (Nat.succ_le_of_lt (lt_of_le_of_ne hj fun hend => hh ?_))
  rcases hl.walkEnd_init j hj with ⟨-, x, y, -, -, h⟩ | ⟨m, hm, hheight, hjm, h⟩
  · rw [h]; rfl
  · rw [h, hm.regs_h (by omega) (by omega)]
    omega

/-- The ranges of R30. -/
structure EdgeRegs.InRange (e : EdgeRegs) : Prop where
  x_mem : -65536 ≤ s32 e.x ∧ s32 e.x ≤ 65536
  step_mem : -65543 ≤ s32 e.step ∧ s32 e.step ≤ 65543
  num_nonneg : 0 ≤ s32 e.num
  den_mem : 0 ≤ s32 e.den ∧ s32 e.den ≤ 1048688
  err_nonneg : 0 ≤ s32 e.err
  y_mem : -32776 ≤ s32 e.y ∧ s32 e.y ≤ 32776
  h_mem : 0 ≤ s32 e.h ∧ s32 e.h ≤ 65543
  zero_of_den : s32 e.den = 0 → s32 e.num = 0 ∧ s32 e.err = 0
  lt_den : s32 e.den ≠ 0 → s32 e.num < s32 e.den ∧ s32 e.err < s32 e.den

theorem zeroEdge_inRange : zeroEdge.InRange := by constructor <;> decide

/-- The place of an edge that crosses no row is stored exactly (R143). -/
theorem flatEdge_spec {x y : Int} (k : Nat) (hx : edgeCoordOk x = true) (hy : edgeCoordOk y = true) :
    s32 (flatEdge x y k).x = ceilDiv x k ∧ s32 (flatEdge x y k).y = ceilDiv y k := by
  rw [edgeCoordOk_iff] at hx hy
  obtain ⟨hxl, hxu⟩ := ceilDiv_mem k (by norm_num) (by norm_num) hx.1 hx.2
  obtain ⟨hyl, hyu⟩ := ceilDiv_mem k (by norm_num) (by norm_num) hy.1 hy.2
  exact ⟨s32_w32 (by omega) (by omega), s32_w32 (by omega) (by omega)⟩

theorem flatEdge_inRange {x y : Int} (k : Nat) (hx : edgeCoordOk x = true) (hy : edgeCoordOk y = true) :
    (flatEdge x y k).InRange := by
  obtain ⟨hxs, hys⟩ := flatEdge_spec k hx hy
  rw [edgeCoordOk_iff] at hx hy
  have hxm := ceilDiv_mem k (by norm_num) (by norm_num) hx.1 hx.2
  have hym := ceilDiv_mem k (by norm_num) (by norm_num) hy.1 hy.2
  constructor
  case x_mem => omega
  case y_mem => omega
  all_goals simp only [flatEdge]; decide

theorem EdgeLine.Crosses.regs_inRange {l : EdgeLine} (hl : l.Crosses) {r : Int} (htop : l.top ≤ r)
    (hbottom : r ≤ l.bottom) : (l.regs r).InRange := by
  have hden := hl.den_pos
  have hfirst := hl.top_ge
  have hlast : l.bottom ≤ 32767 :=
    (ceilDiv_mem l.k (a := -32776) (by norm_num) (by norm_num) hl.y1_ok.1 hl.y1_ok.2).2
  constructor
  case x_mem => rw [hl.regs_x htop hbottom]; exact hl.place_fst_mem htop hbottom
  case step_mem => rw [hl.regs_step]; exact hl.slope_fst_mem
  case num_nonneg => rw [hl.regs_num]; exact floorDivMod_rem_nonneg _ hden
  case den_mem => rw [hl.regs_den]; exact ⟨hden.le, hl.den_le⟩
  case err_nonneg => rw [hl.regs_err]; exact floorDivMod_rem_nonneg _ hden
  case y_mem => rw [hl.regs_y htop hbottom]; omega
  case h_mem => rw [hl.regs_h htop hbottom]; omega
  case zero_of_den => rw [hl.regs_den]; exact fun h0 => absurd h0 hden.ne'
  case lt_den =>
    rw [hl.regs_den, hl.regs_num, hl.regs_err]
    exact fun _ => ⟨floorDivMod_rem_lt _ hden, floorDivMod_rem_lt _ hden⟩

theorem EdgeLoaded.inRange {e : EdgeRegs} (he : EdgeLoaded e) : e.InRange := by
  rcases he.cases with rfl | ⟨x, y, k, hx, hy, rfl⟩ | ⟨l, r, hl, htop, hbottom, rfl⟩
  · exact zeroEdge_inRange
  · exact flatEdge_inRange k hx hy
  · exact hl.regs_inRange htop hbottom

/-- Settles O27, from the ranges of each form of the registers. -/
theorem edgeRegistersInRange : Obligations.EdgeRegistersInRange := by
  unfold Obligations.EdgeRegistersInRange
  intro e he
  obtain ⟨⟨hxl, hxu⟩, ⟨hsl, hsu⟩, hnum, ⟨hdl, hdu⟩, herr, ⟨hyl, hyu⟩, ⟨hhl, hhu⟩, hzero, hlt⟩ := he.inRange
  exact ⟨hxl, hxu, hsl, hsu, hnum, hdl, hdu, herr, hyl, hyu, hhl, hhu, hzero, hlt⟩

/-! ### The commands EDGE_INIT and EDGE_STEP -/

theorem edgeCoordOk_of_coordOk {v : Int} (h : coordOk v = true) : edgeCoordOk v = true := by
  rw [coordOk_iff] at h
  exact (edgeCoordOk_iff v).2 (by omega)

theorem exec_edgeInit {s : State} {k : BitVec 3} (hk : edgeScaleOk k = true) (hcoords : s.coords4Ok = true) :
    exec (.edgeInit k) s = .next (effect (.edgeInit k) s) :=
  exec_of_checked (by simp [checkFault, legalIn, operandFault, hk, hcoords])

/-- The height of a legal edge given top to bottom is a value that a register holds exactly. -/
theorem EdgeLine.InRange.height_mem {l : EdgeLine} (h : l.InRange) (hle : l.y0 ≤ l.y1) :
    l.init.2 = l.bottom - l.top ∧ 0 ≤ l.init.2 ∧ s32 (w32 l.init.2) = l.init.2 := by
  rcases h.flat_or_crosses hle with hflat | hl
  · rw [init_of_flat hle hflat.le, hflat]
    exact ⟨(sub_self _).symm, le_rfl, rfl⟩
  · rw [hl.init_eq]
    exact ⟨rfl, (sub_pos.2 hl.rows).le, hl.regs_h le_rfl hl.rows.le⟩

/-- Settles O23: the registers of the first row, or those of an edge without rows. -/
theorem edgeInitLoadsEdge : Obligations.EdgeInitLoadsEdge := by
  unfold Obligations.EdgeInitLoadsEdge
  intro s k xa ya xb yb hk hcoords horder
  obtain ⟨h0, h1, h2, h3⟩ := (coords4Ok_iff s).1 hcoords
  let l : EdgeLine := ⟨xa, ya, xb, yb, k.toNat⟩
  have hlk : l.k ≤ 4 := by simpa [edgeScaleOk] using hk
  obtain ⟨hle, hl, hinit⟩ : ya ≤ yb ∧ l.InRange ∧ edgeInit s.sArg0 s.sArg1 s.sArg2 s.sArg3 k.toNat = l.init := by
    rcases horder with ⟨hle, rfl, rfl, rfl, rfl⟩ | ⟨hlt, rfl, rfl, rfl, rfl⟩
    · exact ⟨hle, ⟨edgeCoordOk_of_coordOk h0, edgeCoordOk_of_coordOk h1, edgeCoordOk_of_coordOk h2,
        edgeCoordOk_of_coordOk h3, hlk⟩, rfl⟩
    · exact ⟨hlt.le, ⟨edgeCoordOk_of_coordOk h2, edgeCoordOk_of_coordOk h3, edgeCoordOk_of_coordOk h0,
        edgeCoordOk_of_coordOk h1, hlk⟩, edgeInit_swap _ _ _ _ _ hlt⟩
  obtain ⟨hheight, hnonneg, hexact⟩ := hl.height_mem hle
  refine ⟨l.init.1, l.init.2, ?_, hheight, hnonneg, hexact, ?_⟩
  · rw [exec_edgeInit hk hcoords, effect, hinit]
    rfl
  rcases hl.flat_or_crosses hle with hflat | hc
  · rw [EdgeLine.init_of_flat hle hflat.le, if_pos rfl]
    obtain ⟨hx, hy⟩ := flatEdge_spec k.toNat hl.x0_ok hl.y0_ok
    exact ⟨hy, rfl, hx, rfl, rfl, rfl, rfl⟩
  · have hD := hc.den_pos
    rw [hc.init_eq, if_neg (sub_pos.2 hc.rows).ne']
    simp only [hc.regs_y le_rfl hc.rows.le, hc.regs_h le_rfl hc.rows.le, hc.regs_x le_rfl hc.rows.le, hc.regs_step,
      hc.regs_num, hc.regs_den, hc.regs_err]
    exact ⟨rfl, trivial, rfl, floorDivMod_reconstruct _ _, floorDivMod_rem_nonneg _ hD, floorDivMod_rem_lt _ hD,
      floorDivMod_reconstruct _ _, floorDivMod_rem_nonneg _ hD, floorDivMod_rem_lt _ hD⟩

theorem exec_edgeStep (s : State) : exec .edgeStep s = .next (effect .edgeStep s) := exec_of_checked rfl

theorem EdgeRegs.InRange.rem_le {e : EdgeRegs} (he : e.InRange) : s32 e.num ≤ s32 e.den ∧ s32 e.err ≤ s32 e.den := by
  have hzero := he.zero_of_den
  have hlt := he.lt_den
  omega

/-- What a step of an edge with rows left reads as: every sum it stores is in the range of s32 (R144). -/
theorem EdgeRegs.InRange.edgeStep_spec {e : EdgeRegs} (he : e.InRange) (hrows : s32 e.h ≠ 0) :
    s32 (edgeStep e).1.y = s32 e.y + 1 ∧ s32 (edgeStep e).1.h = s32 e.h - 1 ∧
      if s32 e.err + s32 e.num ≥ s32 e.den then
        s32 (edgeStep e).1.x = s32 e.x + s32 e.step + 1 ∧ s32 (edgeStep e).1.err = s32 e.err + s32 e.num - s32 e.den
      else s32 (edgeStep e).1.x = s32 e.x + s32 e.step ∧ s32 (edgeStep e).1.err = s32 e.err + s32 e.num := by
  obtain ⟨hnumLe, herrLe⟩ := he.rem_le
  obtain ⟨⟨hxl, hxu⟩, ⟨hsl, hsu⟩, hnum, ⟨hdl, hdu⟩, herr, ⟨hyl, hyu⟩, ⟨hhl, hhu⟩, -, -⟩ := he
  rw [edgeStep_rows e hrows]
  split
  · exact ⟨s32_w32 (by omega) (by omega), s32_w32 (by omega) (by omega), s32_w32 (by omega) (by omega),
      s32_w32 (by omega) (by omega)⟩
  · exact ⟨s32_w32 (by omega) (by omega), s32_w32 (by omega) (by omega), s32_w32 (by omega) (by omega),
      s32_w32 (by omega) (by omega)⟩

/-- Settles O25: an exhausted edge stays, and a step of any other reads as R144 says. -/
theorem edgeStepAdvances : Obligations.EdgeStepAdvances := by
  unfold Obligations.EdgeStepAdvances
  intro s he
  rw [exec_edgeStep, effect]
  by_cases hh : s.edge.h = 0
  · refine ⟨s.edge, ?_, by rw [if_pos hh]⟩
    rw [edgeStep_exhausted _ ((s32_eq_zero _).2 hh), hh]
    rfl
  · have hrows : s32 s.edge.h ≠ 0 := (s32_eq_zero _).not.2 hh
    obtain ⟨hstep, hnum, hden⟩ := edgeStep_slope s.edge
    refine ⟨(edgeStep s.edge).1, ?_, ?_⟩
    · rw [edgeStep_rows _ hrows]
      split <;> rfl
    · rw [if_neg hh]
      exact ⟨hstep, hnum, hden, he.inRange.edgeStep_spec hrows⟩

/-! ### The sample points of an edge (R146, R168, R173) -/

namespace EdgeLine
variable {l : EdgeLine}

/-- The sample points of an edge given top to bottom: on each row it crosses, the place of R145. -/
def samples (l : EdgeLine) : List (Int × Int) :=
  (List.range (l.bottom - l.top).toNat).map fun j : Nat => ((l.place (l.top + j)).1, l.top + j)

theorem mem_samples {c r : Int} : (c, r) ∈ l.samples ↔ (l.top ≤ r ∧ r < l.bottom) ∧ (l.place r).1 = c := by
  simp only [samples, List.mem_map, List.mem_range, Prod.mk.injEq]
  constructor
  · rintro ⟨j, hj, rfl, rfl⟩
    exact ⟨by omega, rfl⟩
  · rintro ⟨⟨htop, hbottom⟩, rfl⟩
    have hr : l.top + ((r - l.top).toNat : Int) = r := by omega
    exact ⟨(r - l.top).toNat, by omega, by rw [hr], hr⟩

theorem samples_pairwise (l : EdgeLine) : l.samples.Pairwise fun v w => v.2 < w.2 :=
  List.pairwise_map.2 (List.pairwise_lt_range.imp fun hlt => by simpa using hlt)

theorem samples_eq_nil (h : l.bottom ≤ l.top) : l.samples = [] := by
  rw [samples, Int.toNat_of_nonpos (by omega)]
  rfl

/-- The sample points that Walk visits after EdgeInit of the edge as it is given (R146). -/
def visits (l : EdgeLine) : List (Int × Int) := walkVisits l.init.2.toNat l.init.1

theorem visits_eq_samples (h : l.InRange) (hle : l.y0 ≤ l.y1) : l.visits = l.samples := by
  rcases h.flat_or_crosses hle with hflat | hl
  · rw [visits, init_of_flat hle hflat.le, samples_eq_nil hflat.le]
    rfl
  · rw [visits, hl.init_eq, walkVisits_eq, samples]
    refine List.map_congr_left fun j hj => ?_
    have hrow : (j : Int) < l.bottom - l.top := by have := List.mem_range.1 hj; simp only at this; omega
    rw [hl.walkEnd_eq_regs j hrow.le, hl.regs_x (by omega) (by omega), hl.regs_y (by omega) (by omega)]

/-- An edge visits the same points from either end (R142). -/
theorem visits_reverse (l : EdgeLine) : l.reverse.visits = l.visits := by
  rcases lt_trichotomy l.y0 l.y1 with hlt | heq | hlt
  · rw [visits, init_reverse (l := l.reverse) hlt]
    rfl
  · have hflat (m : EdgeLine) (hm : m.y0 = m.y1) : m.visits = [] := by
      rw [visits, init_of_flat hm.le (by rw [top, bottom, hm])]
      rfl
    rw [hflat l heq, hflat l.reverse heq.symm]
  · rw [visits, visits, init_reverse hlt]

end EdgeLine

/-- The edge that DrawEdge loads (R168, R169). -/
def fillLine (aa : Bool) (x0 y0 x1 y1 : Int) : EdgeLine :=
  ⟨x0 - halfSample aa, y0 - halfSample aa, x1 - halfSample aa, y1 - halfSample aa, fillScale aa⟩

theorem edgeSamples_eq_visits (aa : Bool) (x0 y0 x1 y1 : Int) :
    edgeSamples aa x0 y0 x1 y1 = (fillLine aa x0 y0 x1 y1).visits := rfl

theorem edgeSamples_swap (aa : Bool) (x0 y0 x1 y1 : Int) : edgeSamples aa x1 y1 x0 y0 = edgeSamples aa x0 y0 x1 y1 :=
  (fillLine aa x0 y0 x1 y1).visits_reverse

/-- A legal coordinate stays within R147's limits under the half-sample adjustment. -/
theorem edgeCoordOk_sub_halfSample (aa : Bool) {v : Int} (h : coordOk v = true) :
    edgeCoordOk (v - halfSample aa) = true := by
  rw [coordOk_iff] at h
  rw [edgeCoordOk_iff]
  cases aa <;> simp only [halfSample] <;> constructor <;> norm_num <;> omega

theorem fillLine_inRange (aa : Bool) {x0 y0 x1 y1 : Int} (hx0 : coordOk x0 = true) (hy0 : coordOk y0 = true)
    (hx1 : coordOk x1 = true) (hy1 : coordOk y1 = true) : (fillLine aa x0 y0 x1 y1).InRange :=
  ⟨edgeCoordOk_sub_halfSample aa hx0, edgeCoordOk_sub_halfSample aa hy0, edgeCoordOk_sub_halfSample aa hx1,
    edgeCoordOk_sub_halfSample aa hy1, by cases aa <;> norm_num [fillLine, fillScale]⟩

/-- Settles O28: the visited points are the samples of the adjusted edge, each in the least column at or right of
it. -/
theorem edgeSamplesAreExact : Obligations.EdgeSamplesAreExact := by
  unfold Obligations.EdgeSamplesAreExact
  intro aa x0 y0 x1 y1 hx0 hy0 hx1 hy1 hle scale a
  let l := fillLine aa x0 y0 x1 y1
  have hl : l.InRange := fillLine_inRange aa hx0 hy0 hx1 hy1
  have hl0 : l.y0 ≤ l.y1 := sub_le_sub_right hle _
  have hscale : l.scale = scale := by cases aa <;> rfl
  have ha : halfSample aa = a := by cases aa <;> rfl
  have hy (y : Int) (r : Int) : y - halfSample aa ≤ r * l.scale ↔ y ≤ scale * r + a := by
    rw [hscale, ha, sub_le_iff_le_add, mul_comm]
  refine ⟨fun c r => ?points, ?rows, edgeSamples_swap aa x0 y0 x1 y1⟩
  case rows =>
    rw [edgeSamples_eq_visits, EdgeLine.visits_eq_samples hl hl0]
    exact l.samples_pairwise
  case points =>
    have htop : l.top ≤ r ↔ y0 ≤ scale * r + a := (ceilDiv_le_iff l.y0 l.k r).trans (hy y0 r)
    have hbottom : r < l.bottom ↔ scale * r + a < y1 := by
      rw [← not_le, ← not_le]
      exact (((ceilDiv_le_iff l.y1 l.k r).trans (hy y1 r))).not
    rw [edgeSamples_eq_visits, EdgeLine.visits_eq_samples hl hl0, EdgeLine.mem_samples, htop, hbottom, and_assoc]
    refine and_congr_right fun h1 => and_congr_right fun h2 => ?_
    have hc : l.Crosses := (hl.flat_or_crosses hl0).resolve_left (by have := htop.2 h1; have := hbottom.2 h2; omega)
    have hcol (d : Int) : (l.place r).1 ≤ d ↔ (x1 - x0) * (scale * r + a - y0) ≤ (y1 - y0) * (scale * d + a - x0) := by
      have hsides : d * l.den - l.column r = (y1 - y0) * (scale * d + a - x0) - (x1 - x0) * (scale * r + a - y0) := by
        rw [EdgeLine.den, EdgeLine.column, hscale]
        simp only [l, fillLine, ha]
        ring
      rw [hc.place_fst_le_iff, ← sub_nonneg, hsides, sub_nonneg]
    constructor
    · rintro rfl
      exact hcol
    · intro hleast
      exact eq_of_forall_ge_iff fun d => (hcol d).trans (hleast d).symm

end Sys2Proof.Machine
end

section
/-! The fixed-point commands (40_fixed_point.md R120 to R126): the results of word operands are stored exactly. Then the
theorems that settle O18, O21 and O22. -/

namespace Sys2Proof.Machine

/-! ### FDIVMOD (R120, R126) -/

/-- The quotient of words by a positive divisor is between the dividend's own bounds. -/
theorem floorDivMod_quot_mem {n d : Int} (hd : 0 < d) (hn : -2147483648 ≤ n ∧ n ≤ 2147483647) :
    -2147483648 ≤ (floorDivMod n d).1 ∧ (floorDivMod n d).1 ≤ 2147483647 := by
  constructor
  · exact (le_floorDivMod_quot_iff n _ hd).2 (by omega)
  · by_contra hlt
    have := (le_floorDivMod_quot_iff n 2147483648 hd).1 (by omega)
    omega

/-- Settles O18: the quotient is as near 0 as the dividend, and the remainder is below the divisor. -/
theorem fdivmodResult : Obligations.FdivmodResult := by
  unfold Obligations.FdivmodResult
  intro s hd
  obtain ⟨hqlow, hqhigh⟩ := floorDivMod_quot_mem hd (s32_range s.args.arg0)
  have hrlow := floorDivMod_rem_nonneg (s32 s.args.arg0) hd
  have hrlt := floorDivMod_rem_lt (s32 s.args.arg0) hd
  have hdhigh := (s32_range s.args.arg1).2
  have hchecked : checkFault .fdivmod s = none :=
    (checkFault_of_legal rfl).trans (if_pos hd)
  refine ⟨_, _, exec_of_checked hchecked, ?_⟩
  rw [State.setRes0_res0, State.sArg0, State.sArg1, s32_w32 hqlow hqhigh, s32_w32 (by omega) (by omega)]
  exact ⟨(floorDivMod_reconstruct _ _).symm, hrlow, hrlt⟩

/-! ### CEIL (R122, R126) -/

/-- Settles O21: a Ceil of a word is a word, and it is the least integer that reaches the operand. -/
theorem ceilResult : Obligations.CeilResult := by
  unfold Obligations.CeilResult
  intro s k
  obtain ⟨hlow, hhigh⟩ := s32_range s.args.arg0
  obtain ⟨hclow, hchigh⟩ := ceilDiv_mem k.toNat (by norm_num) (by norm_num) hlow hhigh
  refine ⟨_, exec_of_checked rfl, ?_⟩
  rw [State.sArg0, s32_w32 hclow hchigh]
  exact ⟨(ceilDiv_le_iff _ _ _).1 le_rfl,
    not_le.1 fun hle => (sub_one_lt _).not_ge ((ceilDiv_le_iff _ _ _).2 hle)⟩

/-! ### POPCNT (R124) -/

theorem popcount_le {n : Nat} (w : BitVec n) : popcount w ≤ n := by
  simpa [popcount] using List.countP_le_length (p := fun i => w.getLsbD i) (l := List.range n)

/-- The count of 1 bits is the number of their positions. -/
theorem popcount_eq_card {n : Nat} (w : BitVec n) :
    popcount w = ((Finset.range n).filter fun i => w.getLsbD i = true).card := by
  have hcard : ((Finset.range n).filter fun i => w.getLsbD i = true).card =
      ((List.range n).filter fun i => decide (w.getLsbD i = true)).length := rfl
  rw [hcard, popcount, List.countP_eq_length_filter]
  simp only [Bool.decide_eq_true]

/-- Settles O22: the count is at most 32, so it is stored exactly. -/
theorem popcntResult : Obligations.PopcntResult := by
  unfold Obligations.PopcntResult
  intro s
  have hle := popcount_le s.args.arg0
  refine ⟨_, exec_of_checked rfl, ?_⟩
  rw [w32, BitVec.ofInt_natCast, BitVec.toNat_ofNat, Nat.mod_eq_of_lt (by omega), popcount_eq_card]

end Sys2Proof.Machine
end

section
/-! The faults of the checks and the context commands (60_exceptions.md R241 to R244, 44_context.md R210 to R220). The
theorems that settle O19, O24, O33, O35, O46 and O48 to O52. -/

namespace Sys2Proof.Machine

/-! ### Faults -/

/-- Settles O19: the check of the divisor fails. -/
theorem fdivmodDomainFault : Obligations.FdivmodDomainFault := by
  unfold Obligations.FdivmodDomainFault
  exact fun s hd => exec_of_fault ((checkFault_of_legal rfl).trans (if_neg (not_lt.2 hd)))

/-- Settles O24: the scale is checked first, and then the coordinates. -/
theorem edgeInitFaults : Obligations.EdgeInitFaults := by
  unfold Obligations.EdgeInitFaults
  refine fun s k => ⟨fun hk hcoords => ?_, fun hk => ?_⟩
  · exact exec_of_fault (by simp [checkFault, legalIn, operandFault, edgeScaleOk, hk, hcoords])
  · exact exec_of_fault (by simp [checkFault, legalIn, operandFault, edgeScaleOk, hk])

/-- Settles O33: the effect on a path of too few vertices is to close it and to record DEGENERATE. -/
theorem pathCloseDegenerateFault : Obligations.PathCloseDegenerateFault := by
  unfold Obligations.PathCloseDegenerateFault
  intro s hfill hopen hn
  rw [exec_of_checked (by simp [checkFault, legalIn, operandFault, hfill, hopen]), effect_pathClose_of_lt hn]
  rfl

/-- Settles O35: where the command is legal, its coordinates are checked. -/
theorem coordinateRangeFaults : Obligations.CoordinateRangeFaults := by
  unfold Obligations.CoordinateRangeFaults
  refine fun s hfill => ⟨fun hclosed hcoords => ?_, fun hopen hcoords => ?_, fun hcoords => ?_⟩
  · exact exec_of_fault (by simp [checkFault, legalIn, operandFault, hfill, hclosed, hcoords])
  · exact exec_of_fault (by simp [checkFault, legalIn, operandFault, hfill, hopen, hcoords])
  · exact exec_of_fault (by simp [checkFault, legalIn, operandFault, hfill, hcoords])

/-- Settles O48: the size check fails in each of the four cases. -/
theorem initAllocFault : Obligations.InitAllocFault := by
  unfold Obligations.InitAllocFault
  intro s hunbound hsize
  have hbad : s.sizeOk = false := by
    rw [Bool.eq_false_iff, ne_eq, s.sizeOk_iff]
    omega
  exact exec_of_fault (by simp [checkFault, legalIn, operandFault, hunbound, hbad])

/-! ### Context commands -/

/-- Settles O46: NOP has no check and no effect. -/
theorem nopChangesNothing : Obligations.NopChangesNothing := by
  unfold Obligations.NopChangesNothing
  exact fun s => exec_of_checked rfl

/-- Settles O49: the buffer that the model leaves lists nothing. -/
theorem deinitReleasesSurface : Obligations.DeinitReleasesSurface := by
  unfold Obligations.DeinitReleasesSurface
  intro s hbound
  exact ⟨[], exec_of_checked (by simp [checkFault, legalIn, operandFault, hbound])⟩

/-- Settles O50: outside a fill the check passes. -/
theorem setModeSelectsStrategy : Obligations.SetModeSelectsStrategy := by
  unfold Obligations.SetModeSelectsStrategy
  intro s a hstate
  exact exec_of_checked (by simp [checkFault, legalIn, operandFault, hstate])

/-- A flag that is set on a change and kept otherwise (R26). -/
theorem dirty_or_ne (dirty : Bool) (v w : Word) : (dirty || decide (v ≠ w)) = if v = w then dirty else true := by
  split <;> simp_all

/-- Settles O51: neither command has a check. -/
theorem colourCommandsMarkRamp : Obligations.ColourCommandsMarkRamp := by
  unfold Obligations.ColourCommandsMarkRamp
  intro s
  rw [← dirty_or_ne, ← dirty_or_ne]
  exact ⟨exec_of_checked rfl, exec_of_checked rfl⟩

/-- Settles O52: CLR_ERR has no check. -/
theorem clrErrClearsStickyStatus : Obligations.ClrErrClearsStickyStatus := by
  unfold Obligations.ClrErrClearsStickyStatus
  exact fun s => exec_of_checked rfl

end Sys2Proof.Machine
end

section
/-! The commands of the edge-flag fill (42_edge_flag_fill.md): what each completes in, that an edge drawn twice cancels,
and that a closed path keeps the parity of every row. The theorems that settle O29 to O32, O34 and O36 to O38. -/

namespace Sys2Proof.Machine

/-! ### The vertex count (R35, R162) -/

theorem nextPathN_eq (n : Word) : nextPathN n = if n = 0xFFFFFFFF#32 then 0xFFFFFFFF#32 else n + 1 := by
  unfold nextPathN
  split
  case isTrue h => exact h
  case isFalse => rw [w32, BitVec.ofInt_add, u32, BitVec.ofInt_natCast, BitVec.ofNat_toNat, BitVec.setWidth_eq]; rfl

theorem u32_nextPathN (n : Word) : u32 (nextPathN n) = min (u32 n + 1) (2 ^ 32 - 1) := by
  rw [nextPathN_eq, u32, u32]
  split <;> bv_omega

/-- Counting a vertex never loses one: the count saturates. -/
theorem le_nextPathN (n : Word) : u32 n ≤ u32 (nextPathN n) := by
  have hn := u32_lt n
  rw [u32_nextPathN]
  omega

/-! ### The path's vertices (R35) -/

/-- The vertices that a path holds are legal coordinates (R35). -/
structure PathRegs.InRange (p : PathRegs) : Prop where
  first_x : coordOk (s32 p.fx) = true
  first_y : coordOk (s32 p.fy) = true
  prev_x : coordOk (s32 p.px) = true
  prev_y : coordOk (s32 p.py) = true

/-- A legal coordinate is stored exactly. -/
theorem coordOk_w32 {v : Int} (h : coordOk v = true) : coordOk (s32 (w32 v)) = true := by
  have hv := (coordOk_iff v).1 h
  rwa [s32_w32 (by omega) (by omega)]

/-! ### Commands that draw no edge -/

/-- Settles O29: IDLE passes the check, and the seeded box is 16 times the size. -/
theorem beginFillStartsFill : Obligations.BeginFillStartsFill := by
  unfold Obligations.BeginFillStartsFill
  intro s hidle
  rw [exec_of_checked (by simp [checkFault, legalIn, operandFault, hidle]), effect, seedBBox_eq]
  rfl

theorem w32_sArg0 (s : State) : w32 s.sArg0 = s.args.arg0 := w32_s32 _
theorem w32_sArg1 (s : State) : w32 s.sArg1 = s.args.arg1 := w32_s32 _

/-- Settles O30: the checks pass, and storing a word's reading gives the word back. -/
theorem pathMoveStartsPath : Obligations.PathMoveStartsPath := by
  unfold Obligations.PathMoveStartsPath
  intro s hfill hclosed hcoords
  rw [exec_of_checked (by simp [checkFault, legalIn, operandFault, hfill, hclosed, hcoords]), effect, w32_sArg0,
    w32_sArg1]
  rfl

/-! ### Commands that draw an edge -/

theorem exec_pathLine {s : State} (hfill : s.status.state = .filling) (hopen : s.status.pathOpen = true)
    (hcoords : s.coords2Ok = true) : exec .pathLine s = .next (effect .pathLine s) :=
  exec_of_checked (by simp [checkFault, legalIn, operandFault, hfill, hopen, hcoords])

theorem exec_pathClose {s : State} (hfill : s.status.state = .filling) (hopen : s.status.pathOpen = true) :
    exec .pathClose s = .next (effect .pathClose s) :=
  exec_of_checked (by simp [checkFault, legalIn, operandFault, hfill, hopen])

theorem exec_edgeDraw {s : State} (hfill : s.status.state = .filling) (hcoords : s.coords4Ok = true) :
    exec .edgeDraw s = .next (effect .edgeDraw s) :=
  exec_of_checked (by simp [checkFault, legalIn, operandFault, hfill, hcoords])

/-- Drawing into a state whose box has grown toggles the same flags. -/
theorem drawEdge_setBBox (x0 y0 x1 y1 : Int) (s : State) (b : BBoxRegs) (hwf : Memory.wf s.fb = true) :
    ∃ m : Memory, Memory.wf m = true ∧ FbToggled s (edgeSamples s.status.aa x0 y0 x1 y1) m ∧
      drawEdge x0 y0 x1 y1 (s.setBBox b) = { afterDraw x0 y0 x1 y1 m s with bbox := b } :=
  drawEdge_eq x0 y0 x1 y1 (s.setBBox b) hwf

/-- Settles O31: the edge is drawn into the state with the grown box. -/
theorem pathLineDrawsEdge : Obligations.PathLineDrawsEdge := by
  unfold Obligations.PathLineDrawsEdge
  intro s hwf hfill hopen hcoords
  obtain ⟨m, hm, htoggled, hdraw⟩ := drawEdge_setBBox (s32 s.path.px) (s32 s.path.py) s.sArg0 s.sArg1 s
    (grownBBox s.bbox s.sArg0 s.sArg1) hwf
  refine ⟨m, hm, htoggled, ?_⟩
  rw [exec_pathLine hfill hopen hcoords, effect, growBBox, ← grownBBox, hdraw, w32_sArg0, w32_sArg1, nextPathN_eq]
  rfl

/-- Settles O32: the edge is drawn from the previous vertex to the first. -/
theorem pathCloseDrawsWrapEdge : Obligations.PathCloseDrawsWrapEdge := by
  unfold Obligations.PathCloseDrawsWrapEdge
  intro s hwf hfill hopen hn
  obtain ⟨m, hm, htoggled, hdraw⟩ :=
    drawEdge_eq (s32 s.path.px) (s32 s.path.py) (s32 s.path.fx) (s32 s.path.fy) s hwf
  exact ⟨m, hm, htoggled, by rw [exec_pathClose hfill hopen, effect_pathClose_of_le hn, hdraw]⟩

/-- Settles O34: the edge is drawn into the state with the grown box. -/
theorem edgeDrawDrawsEdge : Obligations.EdgeDrawDrawsEdge := by
  unfold Obligations.EdgeDrawDrawsEdge
  intro s hwf hfill hcoords
  obtain ⟨m, hm, htoggled, hdraw⟩ := drawEdge_setBBox s.sArg0 s.sArg1 s.sArg2 s.sArg3 s
    (grownBBox (grownBBox s.bbox s.sArg0 s.sArg1) s.sArg2 s.sArg3) hwf
  exact ⟨m, hm, htoggled, (exec_edgeDraw hfill hcoords).trans (congrArg Host.Outcome.next hdraw)⟩

/-- Settles O36: the column is a floored quotient by 8. -/
theorem aaTogglePosition : Obligations.AaTogglePosition := by
  unfold Obligations.AaTogglePosition
  intro c x r p kk
  have hrow : (8 * r + (kk.val : Int)) / 8 = r := by omega
  have hbit : ((8 * r + (kk.val : Int)) % 8).toNat = kk.val := by omega
  have hdither : dither c kk.val = (c.perm.get kk).toNat := by rw [dither, Fin.ofNat_val_eq_self]
  simp only [flagPos, if_true, hrow, hbit, hdither]
  exact ⟨trivial, trivial, by omega⟩

/-! ### An edge drawn twice -/

/-- Which cell a sample point toggles depends on the surface, the mode and the configuration alone. -/
theorem toggleCell_congr {s t : State} (hw : t.surfW = s.surfW) (hh : t.surfH = s.surfH)
    (haa : t.status.aa = s.status.aa) (hcfg : t.cfg = s.cfg) : toggleCell t = toggleCell s := by
  funext v
  simp only [toggleCell, hw, hh, haa, hcfg]

/-- The same toggles once more undo the first ones. -/
theorem FbToggled.cancel {s t : State} {vs : List (Int × Int)} {n : Memory} (hs : Memory.wf s.fb = true)
    (hn : Memory.wf n = true) (h : FbToggled s vs t.fb) (h2 : FbToggled t vs n) (hcell : toggleCell t = toggleCell s) :
    n = s.fb := by
  refine Memory.ext_read hn hs fun a => BitVec.eq_of_getLsbD_eq fun b hb => ?_
  rw [h2 a b hb, h a b hb, hcell, Bool.xor_assoc, Bool.xor_self, Bool.xor_false]

/-- EDGE_DRAW toggles the edge's samples and keeps what decides where a sample toggles. -/
theorem exec_edgeDraw_toggles {s : State} (hwf : Memory.wf s.fb = true) (hfill : s.status.state = .filling)
    (hcoords : s.coords4Ok = true) : ∃ t, exec .edgeDraw s = .next t ∧ Memory.wf t.fb = true ∧
      FbToggled s (edgeSamples s.status.aa s.sArg0 s.sArg1 s.sArg2 s.sArg3) t.fb ∧ t.status.state = .filling ∧
      t.status.aa = s.status.aa ∧ toggleCell t = toggleCell s := by
  obtain ⟨m, hm, htoggled, hexec⟩ := edgeDrawDrawsEdge s hwf hfill hcoords
  exact ⟨_, hexec, hm, htoggled, hfill, rfl, toggleCell_congr rfl rfl rfl rfl⟩

/-- Settles O37: the edge from its other end has the same samples. -/
theorem drawingTwiceCancels : Obligations.DrawingTwiceCancels := by
  unfold Obligations.DrawingTwiceCancels
  intro s hwf hfill hcoords
  obtain ⟨t, hfirst, ht, htoggled, htfill, haa, hcell⟩ := exec_edgeDraw_toggles hwf hfill hcoords
  obtain ⟨h0, h1, h2, h3⟩ := (coords4Ok_iff s).1 hcoords
  obtain ⟨u, hsecond, hu, htoggled2, -⟩ := exec_edgeDraw_toggles
    (s := { t with args := ⟨s.args.arg2, s.args.arg3, s.args.arg0, s.args.arg1⟩ }) ht htfill
    ((coords4Ok_iff _).2 ⟨h2, h3, h0, h1⟩)
  refine ⟨t, u, hfirst, hsecond, FbToggled.cancel hwf hu htoggled ?_ hcell⟩
  rw [← haa, ← edgeSamples_swap]
  exact htoggled2

/-! ### The parity of a row (R174) -/

theorem runningXor_zero (s : State) (r : Nat) : runningXor s r 0 = s.fbRead r 0 := by
  simp [runningXor]

theorem runningXor_succ (s : State) (r c : Nat) : runningXor s r (c + 1) = runningXor s r c ^^^ s.fbRead r (c + 1) := by
  rw [runningXor, List.range_succ, List.foldl_append]
  rfl

/-- A toggle changes a running XOR in the bit it toggles, from its column on. -/
theorem runningXor_toggle {s : State} (hwf : Memory.wf s.fb = true) (v : Int × Int) (r : Nat) {n b : Nat}
    (hn : n < 2 ^ 32) (hb : b < 8) : (runningXor (toggle s v) r n).getLsbD b =
      ((runningXor s r n).getLsbD b ^^ decide (∃ c ≤ n, toggleCell s v = some (fbKey r c, b))) := by
  induction n with
  | zero => simp [runningXor_zero, State.fbRead, toggle_read s v hwf _ b hb]
  | succ n ih =>
    have hsplit : decide (∃ c ≤ n + 1, toggleCell s v = some (fbKey r c, b)) =
        (decide (∃ c ≤ n, toggleCell s v = some (fbKey r c, b)) ^^
          decide (toggleCell s v = some (fbKey r (n + 1), b))) := by
      by_cases hlast : toggleCell s v = some (fbKey r (n + 1), b)
      · have hnone : ¬ ∃ c ≤ n, toggleCell s v = some (fbKey r c, b) := by
          rintro ⟨c, hc, hcell⟩
          have hkey : fbKey r c = fbKey r (n + 1) := (Prod.mk.inj (Option.some.inj (hcell.symm.trans hlast))).1
          have := ((fbKey_inj (by omega) hn).1 hkey).2
          omega
        rw [decide_eq_true ⟨n + 1, le_rfl, hlast⟩, decide_eq_false hnone, decide_eq_true hlast]
        rfl
      · simp only [hlast, Nat.le_succ_iff, or_and_right, exists_or, exists_eq_left, or_false, decide_false,
          Bool.xor_false]
    rw [runningXor_succ, runningXor_succ, BitVec.getLsbD_xor, BitVec.getLsbD_xor, ih (by omega), State.fbRead,
      toggle_read s v hwf _ b hb, hsplit, State.fbRead]
    simp only [Bool.xor_assoc, Bool.xor_left_comm]

/-- The sample row that toggles bit `b` of row `r` (R170, R171). -/
def sampleRow (aa : Bool) (r b : Nat) : Int := if aa then 8 * r + b else r

/-- Whether there is a toggle of bit `b` of row `r`, inside the buffer, on a sample row before `y`. -/
def toggledBefore (s : State) (r b : Nat) (y : Int) : Bool :=
  decide (r ≤ u32 s.surfH) && (s.status.aa || decide (b = 0)) && decide (sampleRow s.status.aa r b < y)

/-- One sample row has the toggles of its bit. -/
theorem toggledBefore_succ (s : State) (r b : Nat) (y : Int) : toggledBefore s r b (y + 1) =
    (toggledBefore s r b y ^^
      decide (r ≤ u32 s.surfH ∧ (s.status.aa = true ∨ b = 0) ∧ sampleRow s.status.aa r b = y)) := by
  have hrow : decide (sampleRow s.status.aa r b < y + 1) =
      (decide (sampleRow s.status.aa r b < y) ^^ decide (sampleRow s.status.aa r b = y)) := by
    rcases lt_trichotomy (sampleRow s.status.aa r b) y with h | h | h
    · simp [h, h.ne, Int.lt_add_one_of_le h.le]
    · simp [h]
    · simp [h.not_gt, h.ne', h.not_ge]
  simp only [toggledBefore, hrow, Bool.and_xor_distrib_left, Bool.decide_and, Bool.decide_or, Bool.decide_eq_true,
    Bool.and_assoc]

/-- The row and the bit that a sample point toggles (R170, R171). -/
theorem flagPos_row_bit_iff (aa : Bool) (c : Config) (x y : Int) (r : Nat) {b : Nat} (hb : b < 8) :
    ((flagPos aa c (x, y)).row = r ∧ (flagPos aa c (x, y)).bit = b) ↔ (aa = true ∨ b = 0) ∧ sampleRow aa r b = y := by
  cases aa with
  | false => simp [flagPos, sampleRow]; omega
  | true => simp [flagPos, sampleRow]; omega

/-- Some cell of row `r` and bit `b` is toggled by the sample point exactly when it is on that bit's sample row. -/
theorem exists_toggleCell_iff (s : State) (x y : Int) (r : Nat) {b : Nat} (hb : b < 8) :
    (∃ c ≤ u32 s.surfW, toggleCell s (x, y) = some (fbKey r c, b)) ↔
      r ≤ u32 s.surfH ∧ (s.status.aa = true ∨ b = 0) ∧ sampleRow s.status.aa r b = y := by
  rw [← flagPos_row_bit_iff s.status.aa s.cfg x y r hb]
  have hW := u32_lt s.surfW
  have hclip : clipCol (u32 s.surfW) (flagPos s.status.aa s.cfg (x, y)).col ≤ u32 s.surfW := Nat.min_le_right _ _
  unfold toggleCell
  split
  case isTrue hout =>
    have hout' : (flagPos s.status.aa s.cfg (x, y)).row < 0 ∨ (flagPos s.status.aa s.cfg (x, y)).row > u32 s.surfH := by
      simpa [rowOutside] using hout
    simp only [reduceCtorEq, and_false, exists_false, false_iff]
    omega
  case isFalse hout =>
    have hin : 0 ≤ (flagPos s.status.aa s.cfg (x, y)).row ∧ (flagPos s.status.aa s.cfg (x, y)).row ≤ u32 s.surfH := by
      simpa [rowOutside] using hout
    simp only [Option.some.injEq, Prod.mk.injEq]
    constructor
    · rintro ⟨c, hc, hkey, hbit⟩
      obtain ⟨hrow, -⟩ := (fbKey_inj (by omega) (by omega)).1 hkey
      exact ⟨by omega, by omega, hbit⟩
    · rintro ⟨-, hrow, hbit⟩
      exact ⟨_, hclip, by rw [hrow]; rfl, hbit⟩

@[simp] theorem toggledBefore_toggle (s : State) (v : Int × Int) : toggledBefore (toggle s v) = toggledBefore s := by
  funext r b y
  simp [toggledBefore]

theorem rowXor_toggle {s : State} (hwf : Memory.wf s.fb = true) (x y : Int) (r : Nat) {b : Nat} (hb : b < 8) :
    (rowXor (toggle s (x, y)) r).getLsbD b =
      ((rowXor s r).getLsbD b ^^ (toggledBefore s r b y ^^ toggledBefore s r b (y + 1))) := by
  rw [toggledBefore_succ, ← Bool.xor_assoc (toggledBefore s r b y), Bool.xor_self, Bool.false_xor, rowXor, toggle_surfW,
    runningXor_toggle hwf _ r (u32_lt _) hb, rowXor, decide_eq_decide.2 (exists_toggleCell_iff s x y r hb)]

/-- A chain of changes: what comes in between cancels. -/
theorem xor_chain (x a b c : Bool) : ((x ^^ (a ^^ b)) ^^ (b ^^ c)) = (x ^^ (a ^^ c)) := by
  revert x a b c; decide

/-- Drawing sample points on successive rows: nothing but the first row and the one after the last counts. -/
theorem rowXor_toggles (f : Nat → Int) (n : Nat) {s : State} (hwf : Memory.wf s.fb = true) (y : Int) (r : Nat)
    {b : Nat} (hb : b < 8) :
    (rowXor (((List.range n).map fun j : Nat => (f j, y + j)).foldl toggle s) r).getLsbD b =
      ((rowXor s r).getLsbD b ^^ (toggledBefore s r b y ^^ toggledBefore s r b (y + n))) := by
  induction n generalizing s y f with
  | zero => simp
  | succ n ih =>
    have hrest : ((List.range n).map Nat.succ).map (fun j : Nat => (f j, y + j)) =
        (List.range n).map fun j : Nat => (f (j + 1), y + 1 + j) := by
      rw [List.map_map]
      refine List.map_congr_left fun j _ => ?_
      simp [add_assoc, add_comm (1 : Int)]
    have hend : y + 1 + (n : Int) = y + (n + 1 : Nat) := by push_cast; ring
    rw [List.range_succ_eq_map, List.map_cons, List.foldl_cons, hrest, ih _ (toggle_wf s _ hwf),
      rowXor_toggle hwf _ _ r hb, toggledBefore_toggle, Nat.cast_zero, add_zero, xor_chain, hend]

/-- Whether the vertex height `y` lies below the samples of bit `b` of row `r`: an edge toggles the bit when its two
ends differ in this. -/
def vertexBelow (s : State) (r b : Nat) (y : Int) : Bool :=
  toggledBefore s r b (ceilDiv (y - halfSample s.status.aa) (fillScale s.status.aa))

theorem rowXor_samples {l : EdgeLine} (hle : l.y0 ≤ l.y1) {s : State} (hwf : Memory.wf s.fb = true) (r : Nat) {b : Nat}
    (hb : b < 8) : (rowXor (l.samples.foldl toggle s) r).getLsbD b =
      ((rowXor s r).getLsbD b ^^ (toggledBefore s r b l.top ^^ toggledBefore s r b l.bottom)) := by
  have hheight : l.top + ((l.bottom - l.top).toNat : Int) = l.bottom := by
    have : l.top ≤ l.bottom := ceilDiv_mono l.k hle
    omega
  rw [EdgeLine.samples, rowXor_toggles _ _ hwf l.top r hb, hheight]

theorem rowXor_drawEdge {x0 y0 x1 y1 : Int} {s : State} (hwf : Memory.wf s.fb = true) (hx0 : coordOk x0 = true)
    (hy0 : coordOk y0 = true) (hx1 : coordOk x1 = true) (hy1 : coordOk y1 = true) (r : Nat) {b : Nat} (hb : b < 8) :
    (rowXor (drawEdge x0 y0 x1 y1 s) r).getLsbD b =
      ((rowXor s r).getLsbD b ^^ (vertexBelow s r b y0 ^^ vertexBelow s r b y1)) := by
  have hdraw : rowXor (drawEdge x0 y0 x1 y1 s) r =
      rowXor ((edgeSamples s.status.aa x0 y0 x1 y1).foldl toggle s) r := rfl
  rw [hdraw]
  rcases le_total y0 y1 with hle | hle
  · have hle' : (fillLine s.status.aa x0 y0 x1 y1).y0 ≤ (fillLine s.status.aa x0 y0 x1 y1).y1 := sub_le_sub_right hle _
    rw [edgeSamples_eq_visits, EdgeLine.visits_eq_samples (fillLine_inRange _ hx0 hy0 hx1 hy1) hle',
      rowXor_samples hle' hwf r hb]
    rfl
  · have hle' : (fillLine s.status.aa x1 y1 x0 y0).y0 ≤ (fillLine s.status.aa x1 y1 x0 y0).y1 := sub_le_sub_right hle _
    rw [← edgeSamples_swap, edgeSamples_eq_visits, EdgeLine.visits_eq_samples (fillLine_inRange _ hx1 hy1 hx0 hy0) hle',
      rowXor_samples hle' hwf r hb, Bool.xor_comm (vertexBelow s r b y0)]
    rfl

/-! ### A closed path (R165, R174) -/

/-- A fill with a path open, whose vertices are legal. -/
structure PathOpen (s : State) : Prop where
  wf : Memory.wf s.fb = true
  filling : s.status.state = .filling
  opened : s.status.pathOpen = true
  vertices : s.path.InRange

/-- `t` follows `s` in a path: the same surface and mode, and the rows have changed as the edges from height `y0` to
height `y1` change them. -/
structure RowsFollow (s : State) (y0 y1 : Int) (t : State) : Prop where
  below : vertexBelow t = vertexBelow s
  rows : ∀ r b, b < 8 → (rowXor t r).getLsbD b =
    ((rowXor s r).getLsbD b ^^ (vertexBelow s r b y0 ^^ vertexBelow s r b y1))

theorem RowsFollow.trans {s t u : State} {y0 y1 y2 : Int} (h1 : RowsFollow s y0 y1 t) (h2 : RowsFollow t y1 y2 u) :
    RowsFollow s y0 y2 u where
  below := h2.below.trans h1.below
  rows r b hb := by rw [h2.rows r b hb, h1.rows r b hb, h1.below, xor_chain]

/-- Where a toggle's row counts depends on the height of the surface and the mode alone. -/
theorem vertexBelow_congr {s t : State} (hh : t.surfH = s.surfH) (haa : t.status.aa = s.status.aa) :
    vertexBelow t = vertexBelow s := by
  funext r b y
  simp only [vertexBelow, toggledBefore, hh, haa]

/-- Only the buffer and the width of the surface count for the parity of a row. -/
theorem rowXor_congr {s t : State} (hfb : t.fb = s.fb) (hw : t.surfW = s.surfW) : rowXor t = rowXor s := by
  funext r
  simp only [rowXor, runningXor, State.fbRead, hfb, hw]

/-- Drawing an edge, with other registers written before and after it. -/
theorem rowsFollow_drawEdge {s s' t : State} {x0 y0 x1 y1 : Int} (hwf : Memory.wf s'.fb = true)
    (hx0 : coordOk x0 = true) (hy0 : coordOk y0 = true) (hx1 : coordOk x1 = true) (hy1 : coordOk y1 = true)
    (hbefore : rowXor s' = rowXor s ∧ vertexBelow s' = vertexBelow s)
    (hafter : rowXor t = rowXor (drawEdge x0 y0 x1 y1 s') ∧ vertexBelow t = vertexBelow s') : RowsFollow s y0 y1 t where
  below := hafter.2.trans hbefore.2
  rows r b hb := by rw [hafter.1, rowXor_drawEdge hwf hx0 hy0 hx1 hy1 r hb, hbefore.1, hbefore.2]

theorem drawEdge_fb_wf (x0 y0 x1 y1 : Int) {s : State} (hwf : Memory.wf s.fb = true) :
    Memory.wf (drawEdge x0 y0 x1 y1 s).fb = true := toggles_wf _ s hwf

/-- A legal PATH_LINE goes on with the path, and its edge changes the rows. -/
theorem effect_pathLine_rows {s : State} (h : PathOpen s) (hx : coordOk s.sArg0 = true) (hy : coordOk s.sArg1 = true) :
    PathOpen (effect .pathLine s) ∧ RowsFollow s (s32 s.path.py) s.sArg1 (effect .pathLine s) := by
  obtain ⟨hwf, hfill, hopen, hfx, hfy, hpx, hpy⟩ := h
  rw [effect]
  refine ⟨⟨drawEdge_fb_wf _ _ _ _ hwf, by simpa using hfill, by simpa using hopen, hfx, hfy, coordOk_w32 hx,
    coordOk_w32 hy⟩, ?_⟩
  exact rowsFollow_drawEdge (s' := growBBox s.sArg0 s.sArg1 s) hwf hpx hpy hx hy
    ⟨rowXor_congr rfl rfl, vertexBelow_congr rfl rfl⟩
    ⟨rowXor_congr (State.setPath_fb ..) (State.setPath_surfW ..), vertexBelow_congr (by simp) (by simp)⟩

theorem execAt_pathLine {s : State} (h : PathOpen s) {p : Word × Word} (hx : coordOk (s32 p.1) = true)
    (hy : coordOk (s32 p.2) = true) : ∃ t, execAt .pathLine p s = .next t ∧ PathOpen t ∧
      t.path.fy = s.path.fy ∧ t.path.py = p.2 ∧ u32 t.path.n = min (u32 s.path.n + 1) (2 ^ 32 - 1) ∧
      RowsFollow s (s32 s.path.py) (s32 p.2) t := by
  have hargs : PathOpen { s with args := { s.args with arg0 := p.1, arg1 := p.2 } } := { h with }
  obtain ⟨hopen, hrows⟩ := effect_pathLine_rows hargs hx hy
  exact ⟨_, exec_pathLine h.filling h.opened ((coords2Ok_iff _).2 ⟨hx, hy⟩), hopen, rfl, w32_s32 _, u32_nextPathN _,
    { hrows with }⟩

theorem exec_pathClose_rows {s : State} (h : PathOpen s) (hn : 2 ≤ u32 s.path.n) :
    ∃ t, exec .pathClose s = .next t ∧ t.status.state = .filling ∧ t.status.pathOpen = false ∧
      RowsFollow s (s32 s.path.py) (s32 s.path.fy) t := by
  obtain ⟨hwf, hfill, hopen, hfx, hfy, hpx, hpy⟩ := h
  refine ⟨_, exec_pathClose hfill hopen, ?_⟩
  rw [effect_pathClose_of_le hn]
  exact ⟨by simpa using hfill, by simp, rowsFollow_drawEdge hwf hpx hpy hfx hfy ⟨rfl, rfl⟩
    ⟨rfl, vertexBelow_congr (by simp) (by simp)⟩⟩

theorem linesAndClose_rows (ps : List (Word × Word)) {s : State} (h : PathOpen s) (hn : 1 ≤ u32 s.path.n)
    (hclose : ps = [] → 2 ≤ u32 s.path.n) (hps : ∀ q ∈ ps, coordOk (s32 q.1) = true ∧ coordOk (s32 q.2) = true) :
    ∃ t, linesAndClose ps s = .next t ∧ t.status.state = .filling ∧ t.status.pathOpen = false ∧
      RowsFollow s (s32 s.path.py) (s32 s.path.fy) t := by
  induction ps generalizing s with
  | nil => exact exec_pathClose_rows h (hclose rfl)
  | cons p ps ih =>
    obtain ⟨hx, hy⟩ := hps p List.mem_cons_self
    obtain ⟨u, hline, hu, hfirst, hprev, hcount, hrows⟩ := execAt_pathLine h hx hy
    obtain ⟨t, hrest, hfill, hclosed, hrest_rows⟩ := ih hu (by omega) (fun _ => by omega)
      fun q hq => hps q (List.mem_cons_of_mem p hq)
    rw [hfirst, hprev] at hrest_rows
    exact ⟨t, by rw [linesAndClose, hline]; exact hrest, hfill, hclosed, hrows.trans hrest_rows⟩

/-- A legal PATH_MOVE opens a path at its vertex and leaves the rows as they are. -/
theorem execAt_pathMove {s : State} (hwf : Memory.wf s.fb = true) (hfill : s.status.state = .filling)
    (hclosed : s.status.pathOpen = false) {p : Word × Word} (hx : coordOk (s32 p.1) = true)
    (hy : coordOk (s32 p.2) = true) : ∃ t, execAt .pathMove p s = .next t ∧ PathOpen t ∧ t.path.py = t.path.fy ∧
      t.path.n = 1 ∧ rowXor t = rowXor s := by
  refine ⟨_, pathMoveStartsPath _ hfill hclosed ((coords2Ok_iff _).2 ⟨hx, hy⟩), ?_, rfl, rfl, rfl⟩
  exact ⟨hwf, hfill, rfl, hx, hy, hx, hy⟩

/-- Settles O38: the edges of the path change a row as one edge from the first vertex back to it would. -/
theorem closedPathKeepsRowParity : Obligations.ClosedPathKeepsRowParity := by
  unfold Obligations.ClosedPathKeepsRowParity
  intro s p ps hinv hfill hclosed hne hcoords
  obtain ⟨hx, hy⟩ := hcoords p List.mem_cons_self
  obtain ⟨u, hmove, hu, hvertex, hn, hstart⟩ := execAt_pathMove hinv.fb_wf hfill hclosed hx hy
  obtain ⟨t, hlines, htfill, htclosed, -, hrows⟩ := linesAndClose_rows ps hu (by rw [hn]; decide)
    (fun hnil => absurd hnil hne) fun q hq => hcoords q (List.mem_cons_of_mem p hq)
  refine ⟨t, by rw [drawPath, hmove]; exact hlines, htfill, htclosed, fun r => ?_⟩
  refine BitVec.eq_of_getLsbD_eq fun b hb => ?_
  rw [hrows r b hb, hvertex, Bool.xor_self, Bool.xor_false, hstart]

end Sys2Proof.Machine
end

section
/-! END_FILL (43_scan_coverage.md R190 to R198): what a scan of the whole buffer paints, in terms of the running XOR of
each row, and what the surface shows then. Then the theorems that settle O39, O40, O41 and O44. -/

namespace Sys2Proof.Machine

/-! ### The accumulator of a row (R193) -/

/-- The XOR of the entries of row `r` before column `c`. -/
def entriesXor (m : Memory) (r c : Nat) : Byte := (List.range c).foldl (fun a j => a ^^^ Memory.read m (fbKey r j)) 0

theorem entriesXor_succ (m : Memory) (r c : Nat) :
    entriesXor m r (c + 1) = entriesXor m r c ^^^ Memory.read m (fbKey r c) := by
  rw [entriesXor, List.range_succ, List.foldl_append]
  rfl

theorem runningXor_eq_entriesXor (s : State) (r c : Nat) : runningXor s r c = entriesXor s.fb r (c + 1) := rfl

/-! ### What a scan paints -/

/-- A row's PixelWrites, from a buffer that still has the row's entries of `m` from column `c` on. -/
theorem scanRow_events (ok : Bool) (s : State) (r : Nat) {m : Memory} (n : Nat) {c : Nat} (hc : c + n ≤ 2 ^ 32)
    {fb : Memory} (hwf : Memory.wf fb = true)
    (hsame : ∀ j, c ≤ j → j < 2 ^ 32 → Memory.read fb (fbKey r j) = Memory.read m (fbKey r j)) :
    (scanRow ok s r (List.range' c n) (entriesXor m r c) fb).2 =
      (List.range' c n).flatMap fun j => pixelAt ok s r j (entriesXor m r (j + 1)) := by
  induction n generalizing c fb with
  | zero => rfl
  | succ n ih =>
    have hrest : ∀ j, c + 1 ≤ j → j < 2 ^ 32 →
        Memory.read (Memory.write fb (fbKey r c) 0) (fbKey r j) = Memory.read m (fbKey r j) := by
      intro j hj hj32
      have hkey : fbKey r j ≠ fbKey r c := fun h => by
        have := ((fbKey_inj hj32 (by omega)).1 h).2
        omega
      rw [Memory.read_write _ _ _ _ hwf, if_neg hkey, hsame j (by omega) hj32]
    rw [List.range'_succ, scanRow, hsame c le_rfl (by omega), ← entriesXor_succ,
      ih (by omega) (Memory.write_wf _ _ _ hwf) hrest, List.flatMap_cons]

/-- The PixelWrites of a scan of the columns before `w`, from a buffer that still has the entries of `m` from row `r`
on. -/
theorem scanAll_events (ok : Bool) (s : State) {m : Memory} {w : Nat} (hw : w ≤ 2 ^ 32) (n : Nat) {r : Nat}
    {fb : Memory} (hwf : Memory.wf fb = true)
    (hsame : ∀ q j, r ≤ q → j < 2 ^ 32 → Memory.read fb (fbKey q j) = Memory.read m (fbKey q j)) :
    (scanAll ok s (List.range w) (List.range' r n) fb).2 =
      (List.range' r n).flatMap fun q => (List.range w).flatMap fun j => pixelAt ok s q j (entriesXor m q (j + 1)) := by
  induction n generalizing r fb with
  | zero => rfl
  | succ n ih =>
    have hrest : ∀ q j, r + 1 ≤ q → j < 2 ^ 32 →
        Memory.read (scanRow ok s r (List.range w) 0 fb).1 (fbKey q j) = Memory.read m (fbKey q j) := by
      intro q j hq hj
      have hkey : ¬ ∃ c ∈ List.range w, fbKey q j = fbKey r c := by
        rintro ⟨c, hc, h⟩
        have := List.mem_range.1 hc
        have := ((fbKey_inj hj (by omega)).1 h).1
        omega
      rw [scanRow_read _ _ _ _ _ _ hwf, if_neg hkey, hsame q j (by omega) hj]
    have hrow := scanRow_events ok s r (c := 0) w (by omega) hwf fun j _ hj => hsame r j le_rfl hj
    rw [← List.range_eq_range'] at hrow
    rw [List.range'_succ, scanAll, ih (scanRow_wf _ _ _ _ _ _ hwf) hrest, List.flatMap_cons]
    exact congrArg (· ++ _) hrow

/-- An index that paints nothing can be left out at the end. -/
theorem flatMap_range_guard {n : Nat} {f : Nat → List PortEvent} (h : f n = []) :
    (List.range (n + 1)).flatMap f = (List.range n).flatMap f := by
  rw [List.range_succ, List.flatMap_append, List.flatMap_singleton, h, List.append_nil]

/-- Nothing is painted in the guard row and the guard column, so what a scan of the whole buffer paints is in the scan
order of the surface. -/
theorem Drainable.scanEvents_eq {s : State} (hd : Drainable s) (ok : Bool) :
    scanEvents ok s = scanOrder s fun r c => pixelAt ok s r c (runningXor s r c) := by
  have hguard_row (c : Nat) (acc : Byte) : pixelAt ok s (u32 s.surfH) c acc = [] := if_neg (by simp)
  have hguard_col (r : Nat) (acc : Byte) : pixelAt ok s r (u32 s.surfW) acc = [] := if_neg (by simp)
  have hevents := scanAll_events ok s (m := s.fb) (Nat.succ_le_of_lt (u32_lt s.surfW)) (u32 s.surfH + 1) (r := 0)
    hd.fb_wf fun _ _ _ _ => rfl
  rw [← List.range_eq_range'] at hevents
  rw [scanEvents, hd.scanRows_eq, hd.scanCols_eq, hevents]
  rw [flatMap_range_guard (List.flatMap_eq_nil_iff.2 fun c _ => hguard_row c _)]
  exact List.flatMap_congr fun r _ => flatMap_range_guard (hguard_col r _)

/-- A scan of the whole buffer empties it and adds its PixelWrites to the port log. -/
theorem Drainable.scan_eq {s : State} (hd : Drainable s) (ok : Bool) : scan ok s =
    { s with fb := [], env := { s.env with portLog := s.env.portLog ++ scanEvents ok s } } := by
  rw [Machine.scan_eq, ← scan_fb, hd.scan_fb_eq_nil]
  rfl


/-! ### The state that END_FILL leaves -/

/-- The lazy recomputation of the ramp, and recording a fault, touch different fields. -/
theorem raiseFault_rampIfDirty (c : FaultCode) (w : Word) (s : State) :
    raiseFault c w (rampIfDirty s) = rampIfDirty (raiseFault c w s) := by
  cases h : s.status.err
  · rw [raiseFault_of_no_err h, raiseFault_of_no_err (by simpa using h), rampIfDirty_eq, rampIfDirty_eq]; rfl
  · rw [raiseFault_of_err h, raiseFault_of_err (by simpa using h)]

/-- The state in which END_FILL scans. -/
def scanState (s : State) : State := surfaceAcquire (rampIfDirty s)

theorem Drainable.scanState {s : State} (hd : Drainable s) : Drainable (scanState s) :=
  hd.of_eq (rampIfDirty_bbox s) (rampIfDirty_surfW s) (rampIfDirty_surfH s) (rampIfDirty_fb s)

/-- An END_FILL past its state check, up to its release. -/
theorem Drainable.scan_scanState {s : State} (hd : Drainable s) (ok : Bool) :
    (scan ok (Machine.scanState s)).setContext .idle = afterEndFill (scanEvents ok (Machine.scanState s)) s := by
  rw [hd.scanState.scan_eq]
  generalize scanEvents ok (Machine.scanState s) = es
  simp only [Machine.scanState, rampIfDirty_eq, surfaceAcquire, State.setEnv, State.setContext, State.setStatus,
    afterEndFill, List.append_assoc]
  rfl

theorem emit_afterEndFill (es fs : List PortEvent) (s : State) :
    emit es (afterEndFill fs s) = afterEndFill (fs ++ es) s := by
  simp [emit, afterEndFill, State.setEnv]

theorem Drainable.effect_endFill_granted {s : State} (hd : Drainable s) (hanswer : s.surfaceAnswer = true) :
    effect .endFill s = afterEndFill (scanEvents true (Machine.scanState s) ++ [.release]) s := by
  have hbody : effect .endFill s = emit [.release] ((scan true (Machine.scanState s)).setContext .idle) := by
    rw [effect, hanswer, endFillBody_granted]; rfl
  rw [hbody, hd.scan_scanState, emit_afterEndFill]

/-- A refused END_FILL is an END_FILL that has recorded its fault and paints nothing (R194). -/
theorem effect_endFill_refused {s : State} (hanswer : s.surfaceAnswer = false) : effect .endFill s =
    (scan false (scanState (raiseFault .surface (encode .endFill) s))).setContext .idle := by
  rw [effect, hanswer, endFillBody_refused, raiseFault_rampIfDirty]; rfl

/-! ### The painted pixels (R193, R197) -/

theorem scanOrder_congr {s t : State} (hw : t.surfW = s.surfW) (hh : t.surfH = s.surfH)
    {f g : Nat → Nat → List PortEvent} (h : ∀ r c, r < u32 s.surfH → c < u32 s.surfW → f r c = g r c) :
    scanOrder t f = scanOrder s g := by
  rw [scanOrder, scanOrder, hw, hh]
  exact List.flatMap_congr fun r hr => List.flatMap_congr fun c hc => h r c (List.mem_range.1 hr) (List.mem_range.1 hc)

/-- The pixel decision on the surface (R193). -/
theorem pixelAt_of_lt {s : State} {r c : Nat} (hr : r < u32 s.surfH) (hc : c < u32 s.surfW) (acc : Byte) :
    pixelAt true s r c acc =
      if s.status.aa then if popcount acc > 0 then [.pixel c r (rampAt s.ramp (popcount acc))] else []
      else if acc.getLsbD 0 then [.pixel c r s.fillColor] else [] :=
  if_pos (by simp [hr, hc])

theorem scanState_runningXor (s : State) : runningXor (scanState s) = runningXor s := by
  funext r c
  simp [runningXor_eq_entriesXor, scanState]

theorem Drainable.scanEvents_bw {s : State} (hd : Drainable s) (haa : s.status.aa = false) :
    scanEvents true (Machine.scanState s) = scanOrder s (bwPixel s) := by
  rw [hd.scanState.scanEvents_eq, scanState_runningXor]
  refine scanOrder_congr (rampIfDirty_surfW s) (rampIfDirty_surfH s) fun r c hr hc => ?_
  rw [pixelAt_of_lt (by simpa [Machine.scanState] using hr) (by simpa [Machine.scanState] using hc), bwPixel]
  simp [Machine.scanState, haa]

theorem rampAt_rampOf (stroke fill : Word) {n : Nat} (hn : n ≤ 8) :
    rampAt (rampOf stroke fill) n = rampEntry stroke fill n := by
  rw [rampAt, rampOf_get, Fin.val_ofNat, Nat.mod_eq_of_lt (by omega)]

/-- In AA mode the ramp a scan paints with is recomputed where it was dirty (R197). -/
theorem rampAt_scanState {s : State} (haa : s.status.aa = true) {n : Nat} (hn : n ≤ 8) :
    rampAt (scanState s).ramp n = paintRamp s n := by
  have hramp : (scanState s).ramp = if s.status.rampDirty then rampOf s.strokeColor s.fillColor else s.ramp := by
    simp [scanState, rampIfDirty_eq, haa]
  rw [hramp, paintRamp]
  split
  · exact rampAt_rampOf _ _ hn
  · rfl

theorem Drainable.scanEvents_aa {s : State} (hd : Drainable s) (haa : s.status.aa = true) :
    scanEvents true (Machine.scanState s) = scanOrder s (aaPixel s) := by
  rw [hd.scanState.scanEvents_eq, scanState_runningXor]
  refine scanOrder_congr (rampIfDirty_surfW s) (rampIfDirty_surfH s) fun r c hr hc => ?_
  have hmode : (Machine.scanState s).status.aa = true := by simpa [Machine.scanState] using haa
  rw [pixelAt_of_lt (by simpa [Machine.scanState] using hr) (by simpa [Machine.scanState] using hc), if_pos hmode,
    rampAt_scanState haa (popcount_le _), aaPixel]

/-- A scan without the surface paints nothing (R194). -/
theorem Drainable.scanEvents_refused {s : State} (hd : Drainable s) : scanEvents false s = [] := by
  rw [hd.scanEvents_eq]
  simp [scanOrder, pixelAt]

/-! ### END_FILL -/

theorem exec_endFill {s : State} (hfill : s.status.state = .filling) (hclosed : s.status.pathOpen = false) :
    exec .endFill s = .next (effect .endFill s) := exec_endFill_of_fillingClosed hfill hclosed

/-- Settles O39: a granted END_FILL scans the whole buffer in BW mode. -/
theorem endFillBwPaintsParity : Obligations.EndFillBwPaintsParity := by
  unfold Obligations.EndFillBwPaintsParity
  intro s hinv hfill hclosed haa hanswer
  have hd := hinv.drainable (by rw [hfill]; decide)
  rw [exec_endFill hfill hclosed, hd.effect_endFill_granted hanswer, hd.scanEvents_bw haa]

/-- Settles O40: a granted END_FILL scans the whole buffer in AA mode, with the ramp it has made clean. -/
theorem endFillAaPaintsCoverage : Obligations.EndFillAaPaintsCoverage := by
  unfold Obligations.EndFillAaPaintsCoverage
  intro s hinv hfill hclosed haa hanswer
  have hd := hinv.drainable (by rw [hfill]; decide)
  rw [exec_endFill hfill hclosed, hd.effect_endFill_granted hanswer, hd.scanEvents_aa haa]

/-- Settles O41: recording the fault leaves the scan its box, its surface and its buffer. -/
theorem endFillSurfaceRefused : Obligations.EndFillSurfaceRefused := by
  unfold Obligations.EndFillSurfaceRefused
  intro s hinv hfill hclosed hanswer
  have hd : Drainable (raiseFault .surface (encode .endFill) s) :=
    (hinv.drainable (by rw [hfill]; decide)).of_eq (by simp) (by simp) (by simp) (by simp)
  rw [exec_endFill hfill hclosed, effect_endFill_refused hanswer, hd.scan_scanState, hd.scanState.scanEvents_refused]
  rfl

/-! ### What the surface shows (R73, R77) -/

/-- After transactions that paint in one colour alone, a pixel shows it exactly when it has been written. -/
theorem surfacePixel_of_colour {colour : Word} {es : List PortEvent}
    (hes : ∀ x y w, PortEvent.pixel x y w ∈ es → w = colour) (bg : Nat → Nat → Word) (x y : Nat) :
    surfacePixel bg es x y = if .pixel x y colour ∈ es then colour else bg x y := by
  induction es generalizing bg with
  | nil => simp [surfacePixel]
  | cons e es ih =>
    have hrest : ∀ x y w, PortEvent.pixel x y w ∈ es → w = colour := fun x y w h => hes x y w (List.mem_cons_of_mem e h)
    cases e with
    | acquire ok => exact (ih hrest bg).trans (by simp)
    | release => exact (ih hrest bg).trans (by simp)
    | pixel px py w =>
      obtain rfl := hes px py w List.mem_cons_self
      refine (ih hrest fun x y => if px = x ∧ py = y then w else bg x y).trans ?_
      by_cases hmem : PortEvent.pixel x y w ∈ es
      · simp [hmem]
      · simp [hmem, eq_comm]

theorem mem_scanOrder_bw (s : State) (x y : Nat) (w : Word) : .pixel x y w ∈ scanOrder s (bwPixel s) ↔
    (x < u32 s.surfW ∧ y < u32 s.surfH ∧ (runningXor s y x).getLsbD 0 = true) ∧ w = s.fillColor := by
  have hpixel (r c : Nat) : PortEvent.pixel x y w ∈ bwPixel s r c ↔
      (runningXor s r c).getLsbD 0 = true ∧ x = c ∧ y = r ∧ w = s.fillColor := by
    unfold bwPixel
    split <;> simp_all
  simp only [scanOrder, List.mem_flatMap, List.mem_range, hpixel]
  constructor
  · rintro ⟨r, hr, c, hc, hbit, rfl, rfl, hw⟩
    exact ⟨⟨hc, hr, hbit⟩, hw⟩
  · rintro ⟨⟨hc, hr, hbit⟩, hw⟩
    exact ⟨y, hr, x, hc, hbit, rfl, rfl, hw⟩

/-- Settles O44: all that a BW fill paints has the one colour, so a pixel shows it exactly when it has been painted. -/
theorem endFillBwImage : Obligations.EndFillBwImage := by
  unfold Obligations.EndFillBwImage
  intro s hinv hfill hclosed haa hanswer
  refine ⟨_, .acquire s.surfaceAnswer :: (scanOrder s (bwPixel s) ++ [.release]),
    endFillBwPaintsParity s hinv hfill hclosed haa hanswer, rfl, fun bg x y => ?_⟩
  rw [surfacePixel_of_colour (colour := s.fillColor)]
  · simp [mem_scanOrder_bw]
  · intro x y w hmem
    have hpainted : PortEvent.pixel x y w ∈ scanOrder s (bwPixel s) := by simpa using hmem
    exact ((mem_scanOrder_bw s x y w).1 hpainted).2

end Sys2Proof.Machine
end

section
/-! The invariants (10_state.md R24 to R36, 20_memory.md R40 to R68): a property that recorded faults, effects, operand
writes, the outside world and a reset keep is kept by every step. Then the theorems that settle O58, O59 and O60. -/

namespace Sys2Proof.Machine

/-! ### Properties that every step keeps -/

/-- What a step can do to a property: everything a step changes is one of these changes. -/
structure StepClosed (P : State → Prop) : Prop where
  fault : ∀ {s c}, P s → c ≠ .none → ∀ w, P (raiseFault c w s)
  effect : ∀ {s i}, P s → checkFault i s = none → P (effect i s)
  args : ∀ {s}, P s → ∀ v, P (s.setArgs v)
  env : ∀ {s}, P s → ∀ v, P (s.setEnv v)
  reset : ∀ {s}, P s → P (hardwareReset s)

namespace StepClosed
variable {P : State → Prop} (hP : StepClosed P) {s : State} (h : P s)
include hP h

theorem exec (i : Instr) : NextHas P (exec i s) := by
  intro t hexec
  obtain ⟨c, hc, rfl⟩ | ⟨hchecked, rfl⟩ := exec_next_cases hexec
  · exact hP.fault h (checkFault_ne_none hc) _
  · exact hP.effect h hchecked

theorem runCommand (w : Word) : NextHas P (runCommand w s) := by
  cases hd : decode w with
  | ok i => rw [runCommand_ok w i s hd]; exact hP.exec h i
  | error e => rw [runCommand_error w e s hd, nextHas_next]; exact hP.fault h (by decide) w

theorem busWrite (off : Nat) (w : Word) : NextHas P (busWrite off w s) := by
  unfold Machine.busWrite
  split
  case h_1 => exact hP.runCommand h w
  case h_6 => exact (nextHas_next ..).2 h
  all_goals exact (nextHas_next ..).2 (hP.args h _)

theorem busAccess (a : BusAccess) : NextHas P (busAccess a s) := by
  cases a with
  | read bits addr =>
    cases hoff : windowOffset s.cfg bits addr with
    | error e => simp [Machine.busAccess, hoff]
    | ok off => simp only [Machine.busAccess, hoff, nextHas_next]; exact hP.env h _
  | write bits addr w =>
    cases hoff : windowOffset s.cfg bits addr with
    | error e => simp [Machine.busAccess, hoff]
    | ok off => simpa only [Machine.busAccess, hoff] using hP.busWrite h off w

theorem serveOp (op : HostOp) (rest : List HostOp) : NextHas P (serveOp op rest s) := by
  cases op with
  | access a => exact hP.busAccess (hP.env h _) a
  | untilRead body addr value =>
    cases hoff : windowOffset s.cfg 32 addr with
    | error e => simp [Machine.serveOp, hoff]
    | ok off => simp only [Machine.serveOp, hoff, nextHas_next]; exact hP.env (hP.env h _) _
  | reset => exact (nextHas_next ..).2 (hP.reset (hP.env h _))

theorem step : NextHas P (step s) := by
  cases hops : s.env.pending with
  | nil => rw [step_idle s hops]; exact (nextHas_next ..).2 h
  | cons op rest => rw [step_pending s op rest hops]; exact hP.serveOp h op rest

end StepClosed

/-! ### The edge and path registers (R30, R35) -/

theorem edgeInv_iff (s : State) : s.EdgeInv ↔ EdgeLoaded s.edge ∧ s.path.InRange :=
  ⟨fun h => ⟨h.edge, h.first_x, h.first_y, h.prev_x, h.prev_y⟩, fun ⟨he, hp⟩ => ⟨he, hp.1, hp.2, hp.3, hp.4⟩⟩

/-- The invariant is about the E_* and PATH_* registers alone. -/
theorem State.EdgeInv.of_eq {s t : State} (h : s.EdgeInv) (he : t.edge = s.edge) (hp : t.path = s.path) :
    t.EdgeInv := by
  rw [edgeInv_iff] at h ⊢
  rwa [he, hp]

theorem edgeInv_resetWith (c : Config) (e : Env) : (State.resetWith c e).EdgeInv :=
  ⟨.inl rfl, rfl, rfl, rfl, rfl⟩

/-- DrawEdge leaves the exhausted edge (R169). -/
theorem drawEdge_edgeLoaded {x0 y0 x1 y1 : Int} (s : State) (hx0 : coordOk x0 = true) (hy0 : coordOk y0 = true)
    (hx1 : coordOk x1 = true) (hy1 : coordOk y1 = true) : EdgeLoaded (drawEdge x0 y0 x1 y1 s).edge :=
  (fillLine_inRange s.status.aa hx0 hy0 hx1 hy1).edgeLoaded_walkEnd le_rfl

/-- INIT in terms of the fields it writes (R211 to R213). -/
theorem effect_init (s : State) : effect .init s = { s with
    status := { s.status with state := .idle, pathOpen := false, rampDirty := true }
    surfW := s.args.arg0, surfH := s.args.arg1
    bbox :=
      { minX := 0, minY := 0, maxX := w32 (16 * (u32 s.args.arg0 : Int)), maxY := w32 (16 * (u32 s.args.arg1 : Int)) }
    path := { n := 0, fx := 0, fy := 0, px := 0, py := 0 }, fb := [] } := by
  simp only [effect, initEffects, zeroFb, seedBBox, State.setContext, State.setRampDirty, State.setPath,
    State.setPathOpen, State.setStatus, State.setBBox, State.setFb, State.setSurfW, State.setSurfH]

theorem edgeInv_effect {i : Instr} {s : State} (h : s.EdgeInv) (hchecked : checkFault i s = none) :
    (effect i s).EdgeInv := by
  have hoperands := hchecked
  rw [checkFault_of_legal (legalIn_of_checked hchecked)] at hoperands
  obtain ⟨hedge, hpath⟩ := (edgeInv_iff s).1 h
  cases i with
  | init => rw [effect_init]; exact (edgeInv_iff _).2 ⟨hedge, rfl, rfl, rfl, rfl⟩
  | beginFill =>
    exact (edgeInv_iff _).2 ⟨hedge, hpath.first_x, hpath.first_y, hpath.prev_x, hpath.prev_y⟩
  | pathMove =>
    obtain ⟨hx, hy⟩ := (coords2Ok_iff s).1 (by simpa [operandFault] using hoperands)
    exact (edgeInv_iff _).2 ⟨hedge, coordOk_w32 hx, coordOk_w32 hy, coordOk_w32 hx, coordOk_w32 hy⟩
  | pathLine =>
    obtain ⟨hx, hy⟩ := (coords2Ok_iff s).1 (by simpa [operandFault] using hoperands)
    rw [effect, edgeInv_iff, State.setPath_edge, State.setPath_path]
    exact ⟨drawEdge_edgeLoaded _ hpath.prev_x hpath.prev_y hx hy, hpath.first_x, hpath.first_y, coordOk_w32 hx,
      coordOk_w32 hy⟩
  | pathClose =>
    rcases lt_or_ge (u32 s.path.n) 2 with hn | hn
    · rw [effect_pathClose_of_lt hn]
      exact h.of_eq (by simp) (by simp)
    · rw [effect_pathClose_of_le hn, edgeInv_iff]
      exact ⟨drawEdge_edgeLoaded _ hpath.prev_x hpath.prev_y hpath.first_x hpath.first_y, by simpa using hpath⟩
  | edgeDraw =>
    obtain ⟨hx0, hy0, hx1, hy1⟩ := (coords4Ok_iff s).1 (by simpa [operandFault] using hoperands)
    exact (edgeInv_iff _).2 ⟨drawEdge_edgeLoaded _ hx0 hy0 hx1 hy1, by simpa [effect] using hpath⟩
  | edgeInit k =>
    obtain ⟨hk, hcoords⟩ : edgeScaleOk k = true ∧ s.coords4Ok = true := by
      simpa [operandFault, ite_eq_iff] using hoperands
    obtain ⟨hx0, hy0, hx1, hy1⟩ := (coords4Ok_iff s).1 hcoords
    let l : EdgeLine := ⟨s.sArg0, s.sArg1, s.sArg2, s.sArg3, k.toNat⟩
    have hl : l.InRange := ⟨edgeCoordOk_of_coordOk hx0, edgeCoordOk_of_coordOk hy0, edgeCoordOk_of_coordOk hx1,
      edgeCoordOk_of_coordOk hy1, by simpa [edgeScaleOk] using hk⟩
    exact (edgeInv_iff _).2 ⟨hl.edgeLoaded_walkEnd (Nat.zero_le _), hpath⟩
  | edgeStep => exact (edgeInv_iff _).2 ⟨hedge.edgeStep, hpath⟩
  | endFill => exact h.of_eq (by simp [effect]) (by simp [effect])
  | _ => exact h.of_eq rfl rfl

theorem edgeInv_stepClosed : StepClosed State.EdgeInv where
  fault h _ _ := h.of_eq (by simp) (by simp)
  effect h hchecked := edgeInv_effect h hchecked
  args h _ := h.of_eq rfl rfl
  env h _ := h.of_eq rfl rfl
  reset _ := edgeInv_resetWith _ _

/-- Settles O60, from what each change of a step does to the E_* and PATH_* registers. -/
theorem stepKeepsEdgeInvariant : Obligations.StepKeepsEdgeInvariant := by
  unfold Obligations.StepKeepsEdgeInvariant
  exact fun s t h hstep => edgeInv_stepClosed.step h t hstep

/-! ### The flag buffer (R40, R66, R68) -/

/-- What the invariant says of a flag buffer for a surface of width `w` and height `h` in the mode `aa`. -/
structure FbInv (w h : Nat) (aa : Bool) (m : Memory) : Prop where
  wf : Memory.wf m = true
  inside : ∀ c ∈ m, c.1 / 2 ^ 32 ≤ h ∧ c.1 % 2 ^ 32 ≤ w
  bw : aa = false → ∀ c ∈ m, c.2 = 1

theorem fbInv_nil (w h : Nat) (aa : Bool) : FbInv w h aa [] := ⟨rfl, by simp, by simp⟩

/-- An entry reads as 0, or it is listed with what it reads as. -/
theorem Memory.read_eq_zero_or_mem (m : Memory) (a : Nat) : Memory.read m a = 0 ∨ (a, Memory.read m a) ∈ m := by
  induction m with
  | nil => exact .inl rfl
  | cons c m ih =>
    by_cases hc : c.1 = a
    · subst hc
      exact .inr (by simp [Memory.read])
    · rw [Memory.read, if_neg hc]
      exact ih.imp_right (List.mem_cons_of_mem c)

/-- A write inside the buffer of an entry that the mode allows. -/
theorem FbInv.write {w h : Nat} {aa : Bool} {m : Memory} (hm : FbInv w h aa m) {r c : Nat} {v : Byte} (hw : w < 2 ^ 32)
    (hr : r ≤ h) (hc : c ≤ w) (hv : aa = false → v = 0 ∨ v = 1) : FbInv w h aa (Memory.write m (fbKey r c) v) where
  wf := Memory.write_wf _ _ _ hm.wf
  inside := by
    intro d hd
    rcases Memory.mem_write _ _ _ _ hd with hd | ⟨rfl, -⟩
    · exact hm.inside d hd
    · rw [fbKey_row r c (by omega), fbKey_col r c (by omega)]
      exact ⟨hr, hc⟩
  bw := by
    intro haa d hd
    rcases Memory.mem_write _ _ _ _ hd with hd | ⟨rfl, hne⟩
    · exact hm.bw haa d hd
    · exact (hv haa).resolve_left hne

/-- In BW mode a toggled entry is 0 or 1 again (R40, R170). -/
theorem FbInv.xor_one {w h : Nat} {aa : Bool} {m : Memory} (hm : FbInv w h aa m) (haa : aa = false) (a : Nat) :
    Memory.read m a ^^^ 1#8 = 0 ∨ Memory.read m a ^^^ 1#8 = 1 := by
  rcases Memory.read_eq_zero_or_mem m a with h0 | hmem
  · exact .inr (by rw [h0]; rfl)
  · have h1 : Memory.read m a = 1 := hm.bw haa _ hmem
    exact .inl (by rw [h1]; rfl)

/-- The flag buffer of `s` is as the invariant says. -/
def State.FbOk (s : State) : Prop := FbInv (u32 s.surfW) (u32 s.surfH) s.status.aa s.fb

theorem toggle_fbOk (s : State) (v : Int × Int) (h : s.FbOk) : (toggle s v).FbOk := by
  rw [State.FbOk, toggle_surfW, toggle_surfH, toggle_aa, toggle, applyToggle]
  split
  case isTrue => exact h
  case isFalse hrow =>
    have hrow' : ¬ (flagPos s.status.aa s.cfg v).row < 0 ∧ ¬ (flagPos s.status.aa s.cfg v).row > u32 s.surfH := by
      simpa [rowOutside] using hrow
    refine FbInv.write h (u32_lt _) (by omega) (Nat.min_le_right _ _) fun haa => ?_
    have hbit : (flagPos s.status.aa s.cfg v).bit = 0 := by simp [flagPos, haa]
    rw [hbit]
    exact FbInv.xor_one h haa _

theorem toggles_fbOk (vs : List (Int × Int)) (s : State) (h : s.FbOk) : (vs.foldl toggle s).FbOk := by
  induction vs generalizing s with
  | nil => exact h
  | cons v vs ih => exact ih _ (toggle_fbOk s v h)

/-! ### The machine's invariant -/

/-- The smaller of two readings is stored exactly, being one of them; likewise the larger. -/
theorem s32_w32_min (v w : Word) : s32 (w32 (min (s32 v) (s32 w))) = min (s32 v) (s32 w) := by
  rcases min_choice (s32 v) (s32 w) with h | h <;> rw [h, w32_s32]

theorem s32_w32_max (v w : Word) : s32 (w32 (max (s32 v) (s32 w))) = max (s32 v) (s32 w) := by
  rcases max_choice (s32 v) (s32 w) with h | h <;> rw [h, w32_s32]

namespace State.Inv
variable {s : State}

theorem fbOk (h : s.Inv) : s.FbOk := ⟨h.fb_wf, h.fb_inside, h.fb_bw⟩

/-- A bound surface is at most 2047 pixels wide and high (R8, R32). -/
theorem size_le (h : s.Inv) (hbound : s.status.state ≠ .unbound) : u32 s.surfW ≤ 2047 ∧ u32 s.surfH ≤ 2047 := by
  obtain ⟨-, hw, -, hh⟩ := h.bound hbound
  have hcfg := h.cfg_wf
  simp only [Config.wf, Bool.and_eq_true, decide_eq_true_eq] at hcfg
  omega

theorem raiseFault (h : s.Inv) {c : FaultCode} (hc : c ≠ .none) (w : Word) : (raiseFault c w s).Inv := by
  cases herr : s.status.err with
  | true => rwa [raiseFault_of_err herr]
  | false => rw [raiseFault_of_no_err herr]; exact { h with no_err := nofun, some_err := fun _ => hc }

theorem setPathOpen_false (h : s.Inv) : (s.setPathOpen false).Inv :=
  { h with path_filling := nofun, path_started := nofun }

/-- A path that is open, or about to be, has its vertices counted (R24, R35). -/
theorem setPath (h : s.Inv) {p : PathRegs} (hn : s.status.pathOpen = true → 1 ≤ u32 p.n) : (s.setPath p).Inv :=
  { h with path_started := hn }

/-- Growing the box keeps what it covers (R164); the coordinates are words, so each bound is stored exactly. -/
theorem growBBox (h : s.Inv) (x y : Word) : (growBBox (s32 x) (s32 y) s).Inv :=
  { h with
    bbox_covers := by
      intro hbound
      obtain ⟨hminX, hminY, hmaxX, hmaxY⟩ := h.bbox_covers hbound
      simp only [Machine.growBBox, State.setBBox, s32_w32_min, s32_w32_max]
      exact ⟨min_le_of_left_le hminX, min_le_of_left_le hminY, le_max_of_le_left hmaxX, le_max_of_le_left hmaxY⟩ }

theorem drawEdge (h : s.Inv) (hfill : s.status.state = .filling) (x0 y0 x1 y1 : Int) :
    (drawEdge x0 y0 x1 y1 s).Inv := by
  obtain ⟨hwf, hinside, hbw⟩ := toggles_fbOk (edgeSamples s.status.aa x0 y0 x1 y1) s h.fbOk
  rw [Machine.drawEdge]
  rw [toggles_eq] at hinside hbw ⊢
  exact { h with fb_wf := hwf, fb_inside := hinside, fb_bw := hbw, fb_idle := fun hne => absurd hfill hne }

end State.Inv

/-- A multiple of 16 of a legal size is stored exactly. -/
theorem s32_w32_size {v : Word} (hv : u32 v ≤ 2047) : s32 (w32 (16 * (u32 v : Int))) = 16 * (u32 v : Int) :=
  s32_w32 (by omega) (by omega)

/-- The box that a surface of size `w` by `h` seeds covers it exactly (R34). -/
theorem seededBox_covers {w h : Word} (hw : u32 w ≤ 2047) (hh : u32 h ≤ 2047) :
    s32 0 ≤ 0 ∧ s32 0 ≤ 0 ∧ 16 * (u32 w : Int) ≤ s32 (w32 (16 * (u32 w : Int))) ∧
      16 * (u32 h : Int) ≤ s32 (w32 (16 * (u32 h : Int))) :=
  ⟨le_of_eq rfl, le_of_eq rfl, (s32_w32_size hw).ge, (s32_w32_size hh).ge⟩

theorem inv_resetWith {c : Config} (hc : c.wf = true) (e : Env) : (State.resetWith c e).Inv where
  cfg_wf := hc
  bound := nofun
  unbound _ := ⟨rfl, rfl⟩
  path_filling := nofun
  path_started := nofun
  no_err _ := ⟨rfl, rfl⟩
  some_err := nofun
  bbox_covers := nofun
  fb_wf := rfl
  fb_inside := nofun
  fb_bw := nofun
  fb_idle _ := rfl

/-- BEGIN_FILL keeps the surface and the empty buffer of IDLE (R160). -/
theorem inv_beginFill {s : State} (h : s.Inv) (hidle : s.status.state = .idle) : (effect .beginFill s).Inv := by
  have hbound : s.status.state ≠ .unbound := by simp [hidle]
  obtain ⟨hw, hh⟩ := h.size_le hbound
  exact { h with
    bound := fun _ => h.bound hbound
    unbound := nofun
    path_filling := nofun
    path_started := nofun
    bbox_covers := fun _ => seededBox_covers hw hh
    fb_idle := fun _ => h.fb_idle (by simp [hidle]) }

/-- INIT binds a surface that its check has accepted (R211, R213). -/
theorem inv_init {s : State} (h : s.Inv) (hsize : s.sizeOk = true) : (effect .init s).Inv := by
  obtain ⟨⟨hw1, hw2⟩, hh1, hh2⟩ := s.sizeOk_iff.1 hsize
  have hcfg := h.cfg_wf
  simp only [Config.wf, Bool.and_eq_true, decide_eq_true_eq] at hcfg
  rw [effect_init]
  exact { h with
    bound := fun _ => ⟨hw1, hw2, hh1, hh2⟩
    unbound := nofun
    path_filling := nofun
    path_started := nofun
    bbox_covers := fun _ => seededBox_covers (hw2.trans (by omega)) (hh2.trans (by omega))
    fb_wf := rfl
    fb_inside := nofun
    fb_bw := nofun
    fb_idle := fun _ => rfl }

theorem inv_deinit {s : State} (h : s.Inv) : (effect .deinit s).Inv :=
  { h with
    bound := fun hne => absurd rfl hne
    unbound := fun _ => ⟨rfl, rfl⟩
    path_filling := nofun
    path_started := nofun
    bbox_covers := fun hne => absurd rfl hne
    fb_wf := rfl
    fb_inside := nofun
    fb_bw := nofun
    fb_idle := fun _ => rfl }

/-- A fill that ends leaves an empty buffer (R41, R198). -/
theorem inv_afterEndFill {s : State} (h : s.Inv) (hfill : s.status.state = .filling)
    (hclosed : s.status.pathOpen = false) (es : List PortEvent) : (afterEndFill es s).Inv := by
  have hbound : s.status.state ≠ .unbound := by rw [hfill]; decide
  exact { h with
    bound := fun _ => h.bound hbound
    unbound := nofun
    path_filling := fun hopen => absurd hopen (by simp [afterEndFill, hclosed])
    bbox_covers := fun _ => h.bbox_covers hbound
    fb_wf := rfl
    fb_inside := nofun
    fb_bw := nofun
    fb_idle := fun _ => rfl }

theorem inv_endFill {s : State} (h : s.Inv) (hfill : s.status.state = .filling) (hclosed : s.status.pathOpen = false) :
    (effect .endFill s).Inv := by
  cases hanswer : s.surfaceAnswer with
  | true =>
    have hd := h.drainable (by rw [hfill]; decide)
    rw [hd.effect_endFill_granted hanswer]
    exact inv_afterEndFill h hfill hclosed _
  | false =>
    have hrecorded := h.raiseFault (c := .surface) (by decide) (encode .endFill)
    have hstate : (raiseFault .surface (encode .endFill) s).status.state = .filling := by rw [raiseFault_state, hfill]
    have hd := hrecorded.drainable (by rw [hstate]; decide)
    rw [effect_endFill_refused hanswer, hd.scan_scanState]
    exact inv_afterEndFill hrecorded hstate (by simp [apply_ite Status.pathOpen, hclosed]) _

theorem inv_effect {i : Instr} {s : State} (h : s.Inv) (hchecked : checkFault i s = none) : (effect i s).Inv := by
  have hlegal := legalIn_of_checked hchecked
  cases i with
  | nop => exact h
  | init => exact inv_init h (by simpa [checkFault_of_legal hlegal, operandFault] using hchecked)
  | deinit => exact inv_deinit h
  | setMode aa =>
    have hidle : s.fb = [] := h.fb_idle (by simpa [legalIn] using hlegal)
    exact { h with fb_bw := fun _ c hc => by simp [effect, hidle] at hc }
  | clrErr => exact { h with no_err := fun _ => ⟨rfl, rfl⟩, some_err := nofun }
  | beginFill => exact inv_beginFill h (by simpa [legalIn] using hlegal)
  | pathMove =>
    obtain ⟨hfill, -⟩ : s.status.state = .filling ∧ s.status.pathOpen = false := by simpa [legalIn] using hlegal
    exact { h.growBBox s.args.arg0 s.args.arg1 with path_filling := fun _ => hfill, path_started := fun _ => le_rfl }
  | pathLine =>
    obtain ⟨hfill, hopen⟩ : s.status.state = .filling ∧ s.status.pathOpen = true := by simpa [legalIn] using hlegal
    exact ((h.growBBox s.args.arg0 s.args.arg1).drawEdge hfill _ _ _ _).setPath fun _ =>
      (h.path_started hopen).trans (le_nextPathN _)
  | pathClose =>
    obtain ⟨hfill, -⟩ : s.status.state = .filling ∧ s.status.pathOpen = true := by simpa [legalIn] using hlegal
    rcases lt_or_ge (u32 s.path.n) 2 with hn | hn
    · rw [effect_pathClose_of_lt hn]
      exact h.setPathOpen_false.raiseFault (by decide) _
    · rw [effect_pathClose_of_le hn]
      exact (h.drawEdge hfill _ _ _ _).setPathOpen_false
  | edgeDraw =>
    have hfill : s.status.state = .filling := by simpa [legalIn] using hlegal
    exact ((h.growBBox s.args.arg0 s.args.arg1).growBBox s.args.arg2 s.args.arg3).drawEdge hfill _ _ _ _
  | endFill =>
    obtain ⟨hfill, hclosed⟩ : s.status.state = .filling ∧ s.status.pathOpen = false := by simpa [legalIn] using hlegal
    exact inv_endFill h hfill hclosed
  | _ => exact { h with }

theorem inv_stepClosed : StepClosed State.Inv where
  fault h hc w := h.raiseFault hc w
  effect h hchecked := inv_effect h hchecked
  args h _ := { h with }
  env h _ := { h with }
  reset h := inv_resetWith h.cfg_wf _

/-- Settles O59, from what each change of a step does to the invariant. -/
theorem stepKeepsInvariant : Obligations.StepKeepsInvariant := by
  unfold Obligations.StepKeepsInvariant
  exact fun s t h hstep => inv_stepClosed.step h t hstep

/-- Settles O58: reset values meet both invariants in every configuration within the bounds of R8. -/
theorem invariantAtReset : Obligations.InvariantAtReset := by
  unfold Obligations.InvariantAtReset
  exact ⟨inv_resetWith (by decide) _, edgeInv_resetWith _ _⟩

end Sys2Proof.Machine
end
